-- ==== Sys2Proof/Word.lean ====
section
/-! DEFINITION. The machine's two word types (00_scope.md R6, R8): bytes and 16-bit words, both bit vectors, so that
`+` and `-` wrap as R8 says. Every helper over them stands in a file that a repair can mend (Decode.lean, Machine/). -/

namespace Sys2Proof

/-- `u8`: register cells, memory bytes, immediates (R6, R8). -/
abbrev Byte := BitVec 8

/-- `u16`: PC, SP, register pairs, addresses (R6, R8). -/
abbrev Word := BitVec 16

end Sys2Proof
end

