-- ==== Sys2Proof/Syntax.lean ====
section
/-! DEFINITION. The syntax: one constructor of `Instr` per mnemonic of spec/opcode_table.json (30_encoding.md section 5), and
the operand names of 30_encoding.md R102-R106. Names follow the table's: `Ind` marks a memory operand in parentheses,
`N`, `Nn`, `E` an 8-bit immediate, a 16-bit immediate and a displacement, `IndHlInc`/`IndHlDec` the (HL+)/(HL-) forms. -/

namespace Sys2Proof

/-- The seven 8-bit registers of field `r` (30_encoding.md R102, code 110 excluded). -/
inductive Reg8 where
  | b | c | d | e | h | l | a
  deriving DecidableEq, Repr

/-- The eight values of field `r` (R102): a register, or the memory byte at HL (code 110). -/
inductive Target where
  | reg (r : Reg8)
  | indHl
  deriving DecidableEq, Repr

/-- The pairs of field `pp` (R103). -/
inductive Pair where
  | bc | de | hl | sp
  deriving DecidableEq, Repr

/-- The pairs of field `qq` (R104), which are the views of 10_state.md R21. -/
inductive StackPair where
  | bc | de | hl | af
  deriving DecidableEq, Repr

/-- The conditions of field `cc` (R105; 10_state.md R39). -/
inductive Cond where
  | nz | z | nc | c
  deriving DecidableEq, Repr

/-- The 8-bit ALU operations of field `ooo` (R106). -/
inductive AluOp where
  | add | adc | sub | sbc | and | xor | or | cp
  deriving DecidableEq, Repr

/-- The rotate and shift operations of the CB group 00 (R106, R111). -/
inductive RotOp where
  | rlc | rrc | rl | rr | sla | sra | swap | srl
  deriving DecidableEq, Repr

/-- The instructions (30_encoding.md section 5). Operands are what the instruction's bytes hold after its opcode
(R107-R109); the CB table has none (R100). `illegal` is the table's ILLEGAL, with the opcode byte that was fetched
(R114); `prefixCb` is the prefix handler itself, whose sub-opcode is still in memory (46_system.md R265). Those with operands stand first, then the rest,
each in the table's order. -/
inductive Instr where
  | ldBcNn (nn : Word)
  | ldBN (n : Byte)
  | ldIndNnSp (nn : Word)
  | ldCN (n : Byte)
  | ldDeNn (nn : Word)
  | ldDN (n : Byte)
  | jrE (e : Byte)
  | ldEN (n : Byte)
  | jrNzE (e : Byte)
  | ldHlNn (nn : Word)
  | ldHN (n : Byte)
  | jrZE (e : Byte)
  | ldLN (n : Byte)
  | jrNcE (e : Byte)
  | ldSpNn (nn : Word)
  | ldIndHlN (n : Byte)
  | jrCE (e : Byte)
  | ldAN (n : Byte)
  | jpNzNn (nn : Word)
  | jpNn (nn : Word)
  | callNzNn (nn : Word)
  | addAN (n : Byte)
  | jpZNn (nn : Word)
  | callZNn (nn : Word)
  | callNn (nn : Word)
  | adcAN (n : Byte)
  | jpNcNn (nn : Word)
  | illegal (op : Byte)
  | callNcNn (nn : Word)
  | subAN (n : Byte)
  | jpCNn (nn : Word)
  | callCNn (nn : Word)
  | sbcAN (n : Byte)
  | ldhIndNA (n : Byte)
  | andAN (n : Byte)
  | addSpE (e : Byte)
  | ldIndNnA (nn : Word)
  | xorAN (n : Byte)
  | ldhAIndN (n : Byte)
  | orAN (n : Byte)
  | ldHlSpE (e : Byte)
  | ldAIndNn (nn : Word)
  | cpAN (n : Byte)
  | nop
  | ldIndBcA
  | incBc
  | incB
  | decB
  | rlca
  | addHlBc
  | ldAIndBc
  | decBc
  | incC
  | decC
  | rrca
  | stop
  | ldIndDeA
  | incDe
  | incD
  | decD
  | rla
  | addHlDe
  | ldAIndDe
  | decDe
  | incE
  | decE
  | rra
  | ldIndHlIncA
  | incHl
  | incH
  | decH
  | daa
  | addHlHl
  | ldAIndHlInc
  | decHl
  | incL
  | decL
  | cpl
  | ldIndHlDecA
  | incSp
  | incIndHl
  | decIndHl
  | scf
  | addHlSp
  | ldAIndHlDec
  | decSp
  | incA
  | decA
  | ccf
  | ldBB
  | ldBC
  | ldBD
  | ldBE
  | ldBH
  | ldBL
  | ldBIndHl
  | ldBA
  | ldCB
  | ldCC
  | ldCD
  | ldCE
  | ldCH
  | ldCL
  | ldCIndHl
  | ldCA
  | ldDB
  | ldDC
  | ldDD
  | ldDE
  | ldDH
  | ldDL
  | ldDIndHl
  | ldDA
  | ldEB
  | ldEC
  | ldED
  | ldEE
  | ldEH
  | ldEL
  | ldEIndHl
  | ldEA
  | ldHB
  | ldHC
  | ldHD
  | ldHE
  | ldHH
  | ldHL
  | ldHIndHl
  | ldHA
  | ldLB
  | ldLC
  | ldLD
  | ldLE
  | ldLH
  | ldLL
  | ldLIndHl
  | ldLA
  | ldIndHlB
  | ldIndHlC
  | ldIndHlD
  | ldIndHlE
  | ldIndHlH
  | ldIndHlL
  | halt
  | ldIndHlA
  | ldAB
  | ldAC
  | ldAD
  | ldAE
  | ldAH
  | ldAL
  | ldAIndHl
  | ldAA
  | addAB
  | addAC
  | addAD
  | addAE
  | addAH
  | addAL
  | addAIndHl
  | addAA
  | adcAB
  | adcAC
  | adcAD
  | adcAE
  | adcAH
  | adcAL
  | adcAIndHl
  | adcAA
  | subAB
  | subAC
  | subAD
  | subAE
  | subAH
  | subAL
  | subAIndHl
  | subAA
  | sbcAB
  | sbcAC
  | sbcAD
  | sbcAE
  | sbcAH
  | sbcAL
  | sbcAIndHl
  | sbcAA
  | andAB
  | andAC
  | andAD
  | andAE
  | andAH
  | andAL
  | andAIndHl
  | andAA
  | xorAB
  | xorAC
  | xorAD
  | xorAE
  | xorAH
  | xorAL
  | xorAIndHl
  | xorAA
  | orAB
  | orAC
  | orAD
  | orAE
  | orAH
  | orAL
  | orAIndHl
  | orAA
  | cpAB
  | cpAC
  | cpAD
  | cpAE
  | cpAH
  | cpAL
  | cpAIndHl
  | cpAA
  | retNz
  | popBc
  | pushBc
  | rst00
  | retZ
  | ret
  | prefixCb
  | rst08
  | retNc
  | popDe
  | pushDe
  | rst10
  | retC
  | reti
  | rst18
  | popHl
  | ldIndCA
  | pushHl
  | rst20
  | jpHl
  | rst28
  | popAf
  | ldAIndC
  | di
  | pushAf
  | rst30
  | ldSpHl
  | ei
  | rst38
  | rlcB
  | rlcC
  | rlcD
  | rlcE
  | rlcH
  | rlcL
  | rlcIndHl
  | rlcA
  | rrcB
  | rrcC
  | rrcD
  | rrcE
  | rrcH
  | rrcL
  | rrcIndHl
  | rrcA
  | rlB
  | rlC
  | rlD
  | rlE
  | rlH
  | rlL
  | rlIndHl
  | rlA
  | rrB
  | rrC
  | rrD
  | rrE
  | rrH
  | rrL
  | rrIndHl
  | rrA
  | slaB
  | slaC
  | slaD
  | slaE
  | slaH
  | slaL
  | slaIndHl
  | slaA
  | sraB
  | sraC
  | sraD
  | sraE
  | sraH
  | sraL
  | sraIndHl
  | sraA
  | swapB
  | swapC
  | swapD
  | swapE
  | swapH
  | swapL
  | swapIndHl
  | swapA
  | srlB
  | srlC
  | srlD
  | srlE
  | srlH
  | srlL
  | srlIndHl
  | srlA
  | bit0B
  | bit0C
  | bit0D
  | bit0E
  | bit0H
  | bit0L
  | bit0IndHl
  | bit0A
  | bit1B
  | bit1C
  | bit1D
  | bit1E
  | bit1H
  | bit1L
  | bit1IndHl
  | bit1A
  | bit2B
  | bit2C
  | bit2D
  | bit2E
  | bit2H
  | bit2L
  | bit2IndHl
  | bit2A
  | bit3B
  | bit3C
  | bit3D
  | bit3E
  | bit3H
  | bit3L
  | bit3IndHl
  | bit3A
  | bit4B
  | bit4C
  | bit4D
  | bit4E
  | bit4H
  | bit4L
  | bit4IndHl
  | bit4A
  | bit5B
  | bit5C
  | bit5D
  | bit5E
  | bit5H
  | bit5L
  | bit5IndHl
  | bit5A
  | bit6B
  | bit6C
  | bit6D
  | bit6E
  | bit6H
  | bit6L
  | bit6IndHl
  | bit6A
  | bit7B
  | bit7C
  | bit7D
  | bit7E
  | bit7H
  | bit7L
  | bit7IndHl
  | bit7A
  | res0B
  | res0C
  | res0D
  | res0E
  | res0H
  | res0L
  | res0IndHl
  | res0A
  | res1B
  | res1C
  | res1D
  | res1E
  | res1H
  | res1L
  | res1IndHl
  | res1A
  | res2B
  | res2C
  | res2D
  | res2E
  | res2H
  | res2L
  | res2IndHl
  | res2A
  | res3B
  | res3C
  | res3D
  | res3E
  | res3H
  | res3L
  | res3IndHl
  | res3A
  | res4B
  | res4C
  | res4D
  | res4E
  | res4H
  | res4L
  | res4IndHl
  | res4A
  | res5B
  | res5C
  | res5D
  | res5E
  | res5H
  | res5L
  | res5IndHl
  | res5A
  | res6B
  | res6C
  | res6D
  | res6E
  | res6H
  | res6L
  | res6IndHl
  | res6A
  | res7B
  | res7C
  | res7D
  | res7E
  | res7H
  | res7L
  | res7IndHl
  | res7A
  | set0B
  | set0C
  | set0D
  | set0E
  | set0H
  | set0L
  | set0IndHl
  | set0A
  | set1B
  | set1C
  | set1D
  | set1E
  | set1H
  | set1L
  | set1IndHl
  | set1A
  | set2B
  | set2C
  | set2D
  | set2E
  | set2H
  | set2L
  | set2IndHl
  | set2A
  | set3B
  | set3C
  | set3D
  | set3E
  | set3H
  | set3L
  | set3IndHl
  | set3A
  | set4B
  | set4C
  | set4D
  | set4E
  | set4H
  | set4L
  | set4IndHl
  | set4A
  | set5B
  | set5C
  | set5D
  | set5E
  | set5H
  | set5L
  | set5IndHl
  | set5A
  | set6B
  | set6C
  | set6D
  | set6E
  | set6H
  | set6L
  | set6IndHl
  | set6A
  | set7B
  | set7C
  | set7D
  | set7E
  | set7H
  | set7L
  | set7IndHl
  | set7A
  deriving DecidableEq, Repr

end Sys2Proof
end

