-- ==== Sys2Proof/WellFormed.lean ====
section
/-! DEFINITION. Which instructions are well formed. Every operand's type is exactly its field, so the one check left is
that `illegal` carries one of the eleven illegal opcode bytes (30_encoding.md R114). -/

namespace Sys2Proof

/-- The eleven illegal base opcodes (30_encoding.md R114). -/
def illegalOpcodes : List Byte :=
  [0xD3, 0xDB, 0xDD, 0xE3, 0xE4, 0xEB, 0xEC, 0xED, 0xF4, 0xFC, 0xFD]

/-- Well-formedness of an instruction: `illegal` holds an illegal opcode (R114); nothing else is constrained. -/
def Instr.wellFormed (i : Instr) : Bool :=
  match i with
  | .illegal op => illegalOpcodes.contains op
  | _ => true

end Sys2Proof
end

