-- ==== Sys2Proof/Decode.lean ====
section
/-! DEFINITION. Decoding and encoding (30_encoding.md). The decoder reads the bit fields of R102-R106 and R111 by the
quadrants of R112; the encoder after it is the list of words of section 5, one line per constructor, so the two were
written from different parts of the spec and each checks the other. -/

namespace Sys2Proof

/-! ### Byte order and bit fields -/

/-- High byte of a word, `v[15:8]` (00_scope.md R7). -/
def hiByte (v : Word) : Byte := v.extractLsb' 8 8

/-- Low byte of a word, `v[7:0]` (00_scope.md R7). -/
def loByte (v : Word) : Byte := v.extractLsb' 0 8

/-- `hi:lo`, the word `(hi << 8) | lo` (00_scope.md R9). -/
def joinBytes (hi lo : Byte) : Word := hi ++ lo

/-- The entry of an 8-entry table that a 3-bit field selects. -/
def pick8 {α : Type} (k : BitVec 3) (x0 x1 x2 x3 x4 x5 x6 x7 : α) : α :=
  match k.toNat with
  | 0 => x0
  | 1 => x1
  | 2 => x2
  | 3 => x3
  | 4 => x4
  | 5 => x5
  | 6 => x6
  | _ => x7

/-- The entry of a 4-entry table that a 2-bit field selects. -/
def pick4 {α : Type} (k : BitVec 2) (x0 x1 x2 x3 : α) : α :=
  match k.toNat with
  | 0 => x0
  | 1 => x1
  | 2 => x2
  | _ => x3

/-- Field `r` (R102): 000 B, 001 C, 010 D, 011 E, 100 H, 101 L, 110 (HL), 111 A. -/
def targetOf (k : BitVec 3) : Target :=
  pick8 k (.reg .b) (.reg .c) (.reg .d) (.reg .e) (.reg .h) (.reg .l) .indHl (.reg .a)

/-- Field `pp` (R103): 00 BC, 01 DE, 10 HL, 11 SP. -/
def pairOf (k : BitVec 2) : Pair := pick4 k .bc .de .hl .sp

/-- Field `qq` (R104): 00 BC, 01 DE, 10 HL, 11 AF. -/
def stackPairOf (k : BitVec 2) : StackPair := pick4 k .bc .de .hl .af

/-- Field `cc` (R105): 00 NZ, 01 Z, 10 NC, 11 C. -/
def condOf (k : BitVec 2) : Cond := pick4 k .nz .z .nc .c

/-- Field `ooo` of the 8-bit ALU opcodes (R106). -/
def aluOf (k : BitVec 3) : AluOp := pick8 k .add .adc .sub .sbc .and .xor .or .cp

/-- Field `ooo` of the CB rotate/shift group (R106). -/
def rotOf (k : BitVec 3) : RotOp := pick8 k .rlc .rrc .rl .rr .sla .sra .swap .srl

/-- The code of a target in field `r` (R102). -/
def Target.code : Target → BitVec 3
  | .reg .b => 0
  | .reg .c => 1
  | .reg .d => 2
  | .reg .e => 3
  | .reg .h => 4
  | .reg .l => 5
  | .indHl => 6
  | .reg .a => 7

/-- The code of a rotate or shift in field `ooo` (R106). -/
def RotOp.code : RotOp → BitVec 3
  | .rlc => 0
  | .rrc => 1
  | .rl => 2
  | .rr => 3
  | .sla => 4
  | .sra => 5
  | .swap => 6
  | .srl => 7

/-- The CB sub-opcode with fields gg, y, rrr (R111). -/
def cbCode (gg : BitVec 2) (y : BitVec 3) (t : Target) : Byte := (gg ++ y) ++ t.code

/-! ### The instruction of a family that its operand fields select -/

/-- LD r,r' (R130). -/
def Instr.ldRegReg : Reg8 → Reg8 → Instr
  | .b, .b => .ldBB
  | .b, .c => .ldBC
  | .b, .d => .ldBD
  | .b, .e => .ldBE
  | .b, .h => .ldBH
  | .b, .l => .ldBL
  | .b, .a => .ldBA
  | .c, .b => .ldCB
  | .c, .c => .ldCC
  | .c, .d => .ldCD
  | .c, .e => .ldCE
  | .c, .h => .ldCH
  | .c, .l => .ldCL
  | .c, .a => .ldCA
  | .d, .b => .ldDB
  | .d, .c => .ldDC
  | .d, .d => .ldDD
  | .d, .e => .ldDE
  | .d, .h => .ldDH
  | .d, .l => .ldDL
  | .d, .a => .ldDA
  | .e, .b => .ldEB
  | .e, .c => .ldEC
  | .e, .d => .ldED
  | .e, .e => .ldEE
  | .e, .h => .ldEH
  | .e, .l => .ldEL
  | .e, .a => .ldEA
  | .h, .b => .ldHB
  | .h, .c => .ldHC
  | .h, .d => .ldHD
  | .h, .e => .ldHE
  | .h, .h => .ldHH
  | .h, .l => .ldHL
  | .h, .a => .ldHA
  | .l, .b => .ldLB
  | .l, .c => .ldLC
  | .l, .d => .ldLD
  | .l, .e => .ldLE
  | .l, .h => .ldLH
  | .l, .l => .ldLL
  | .l, .a => .ldLA
  | .a, .b => .ldAB
  | .a, .c => .ldAC
  | .a, .d => .ldAD
  | .a, .e => .ldAE
  | .a, .h => .ldAH
  | .a, .l => .ldAL
  | .a, .a => .ldAA

/-- LD r,n (R131). -/
def Instr.ldRegImm : Reg8 → Byte → Instr
  | .b, n => .ldBN n
  | .c, n => .ldCN n
  | .d, n => .ldDN n
  | .e, n => .ldEN n
  | .h, n => .ldHN n
  | .l, n => .ldLN n
  | .a, n => .ldAN n

/-- LD r,(HL) (R132). -/
def Instr.ldRegInd : Reg8 → Instr
  | .b => .ldBIndHl
  | .c => .ldCIndHl
  | .d => .ldDIndHl
  | .e => .ldEIndHl
  | .h => .ldHIndHl
  | .l => .ldLIndHl
  | .a => .ldAIndHl

/-- LD (HL),r (R133). -/
def Instr.ldIndReg : Reg8 → Instr
  | .b => .ldIndHlB
  | .c => .ldIndHlC
  | .d => .ldIndHlD
  | .e => .ldIndHlE
  | .h => .ldIndHlH
  | .l => .ldIndHlL
  | .a => .ldIndHlA

/-- The 8-bit ALU with a register source (R170 a). -/
def Instr.aluReg : AluOp → Reg8 → Instr
  | .add, .b => .addAB
  | .add, .c => .addAC
  | .add, .d => .addAD
  | .add, .e => .addAE
  | .add, .h => .addAH
  | .add, .l => .addAL
  | .add, .a => .addAA
  | .adc, .b => .adcAB
  | .adc, .c => .adcAC
  | .adc, .d => .adcAD
  | .adc, .e => .adcAE
  | .adc, .h => .adcAH
  | .adc, .l => .adcAL
  | .adc, .a => .adcAA
  | .sub, .b => .subAB
  | .sub, .c => .subAC
  | .sub, .d => .subAD
  | .sub, .e => .subAE
  | .sub, .h => .subAH
  | .sub, .l => .subAL
  | .sub, .a => .subAA
  | .sbc, .b => .sbcAB
  | .sbc, .c => .sbcAC
  | .sbc, .d => .sbcAD
  | .sbc, .e => .sbcAE
  | .sbc, .h => .sbcAH
  | .sbc, .l => .sbcAL
  | .sbc, .a => .sbcAA
  | .and, .b => .andAB
  | .and, .c => .andAC
  | .and, .d => .andAD
  | .and, .e => .andAE
  | .and, .h => .andAH
  | .and, .l => .andAL
  | .and, .a => .andAA
  | .xor, .b => .xorAB
  | .xor, .c => .xorAC
  | .xor, .d => .xorAD
  | .xor, .e => .xorAE
  | .xor, .h => .xorAH
  | .xor, .l => .xorAL
  | .xor, .a => .xorAA
  | .or, .b => .orAB
  | .or, .c => .orAC
  | .or, .d => .orAD
  | .or, .e => .orAE
  | .or, .h => .orAH
  | .or, .l => .orAL
  | .or, .a => .orAA
  | .cp, .b => .cpAB
  | .cp, .c => .cpAC
  | .cp, .d => .cpAD
  | .cp, .e => .cpAE
  | .cp, .h => .cpAH
  | .cp, .l => .cpAL
  | .cp, .a => .cpAA

/-- The 8-bit ALU with the source (HL) (R170 b). -/
def Instr.aluInd : AluOp → Instr
  | .add => .addAIndHl
  | .adc => .adcAIndHl
  | .sub => .subAIndHl
  | .sbc => .sbcAIndHl
  | .and => .andAIndHl
  | .xor => .xorAIndHl
  | .or => .orAIndHl
  | .cp => .cpAIndHl

/-- The 8-bit ALU with an immediate source (R170 c). -/
def Instr.aluImm : AluOp → Byte → Instr
  | .add, n => .addAN n
  | .adc, n => .adcAN n
  | .sub, n => .subAN n
  | .sbc, n => .sbcAN n
  | .and, n => .andAN n
  | .xor, n => .xorAN n
  | .or, n => .orAN n
  | .cp, n => .cpAN n

/-- INC r (R179). -/
def Instr.incReg : Reg8 → Instr
  | .b => .incB
  | .c => .incC
  | .d => .incD
  | .e => .incE
  | .h => .incH
  | .l => .incL
  | .a => .incA

/-- DEC r (R181). -/
def Instr.decReg : Reg8 → Instr
  | .b => .decB
  | .c => .decC
  | .d => .decD
  | .e => .decE
  | .h => .decH
  | .l => .decL
  | .a => .decA

/-- LD rr,nn (R149). -/
def Instr.ldPairImm : Pair → Word → Instr
  | .bc, nn => .ldBcNn nn
  | .de, nn => .ldDeNn nn
  | .hl, nn => .ldHlNn nn
  | .sp, nn => .ldSpNn nn

/-- ADD HL,rr (R201). -/
def Instr.addHlPair : Pair → Instr
  | .bc => .addHlBc
  | .de => .addHlDe
  | .hl => .addHlHl
  | .sp => .addHlSp

/-- INC rr (R202). -/
def Instr.incPair : Pair → Instr
  | .bc => .incBc
  | .de => .incDe
  | .hl => .incHl
  | .sp => .incSp

/-- DEC rr (R203). -/
def Instr.decPair : Pair → Instr
  | .bc => .decBc
  | .de => .decDe
  | .hl => .decHl
  | .sp => .decSp

/-- PUSH qq (R153). -/
def Instr.pushPair : StackPair → Instr
  | .bc => .pushBc
  | .de => .pushDe
  | .hl => .pushHl
  | .af => .pushAf

/-- POP qq (R154, R155). -/
def Instr.popPair : StackPair → Instr
  | .bc => .popBc
  | .de => .popDe
  | .hl => .popHl
  | .af => .popAf

/-- JP cc,nn (R241). -/
def Instr.jpCond : Cond → Word → Instr
  | .nz, nn => .jpNzNn nn
  | .z, nn => .jpZNn nn
  | .nc, nn => .jpNcNn nn
  | .c, nn => .jpCNn nn

/-- JR cc,e (R244). -/
def Instr.jrCond : Cond → Byte → Instr
  | .nz, e => .jrNzE e
  | .z, e => .jrZE e
  | .nc, e => .jrNcE e
  | .c, e => .jrCE e

/-- CALL cc,nn (R246). -/
def Instr.callCond : Cond → Word → Instr
  | .nz, nn => .callNzNn nn
  | .z, nn => .callZNn nn
  | .nc, nn => .callNcNn nn
  | .c, nn => .callCNn nn

/-- RET cc (R248). -/
def Instr.retCond : Cond → Instr
  | .nz => .retNz
  | .z => .retZ
  | .nc => .retNc
  | .c => .retC

/-- RST t, field `ttt` (R250; R106). -/
def Instr.rst (ttt : BitVec 3) : Instr :=
  pick8 ttt .rst00 .rst08 .rst10 .rst18 .rst20 .rst28 .rst30 .rst38

/-- The CB rotate and shift group (R215-R222). -/
def Instr.cbRot : RotOp → Target → Instr
  | .rlc, .reg .b => .rlcB
  | .rlc, .reg .c => .rlcC
  | .rlc, .reg .d => .rlcD
  | .rlc, .reg .e => .rlcE
  | .rlc, .reg .h => .rlcH
  | .rlc, .reg .l => .rlcL
  | .rlc, .indHl => .rlcIndHl
  | .rlc, .reg .a => .rlcA
  | .rrc, .reg .b => .rrcB
  | .rrc, .reg .c => .rrcC
  | .rrc, .reg .d => .rrcD
  | .rrc, .reg .e => .rrcE
  | .rrc, .reg .h => .rrcH
  | .rrc, .reg .l => .rrcL
  | .rrc, .indHl => .rrcIndHl
  | .rrc, .reg .a => .rrcA
  | .rl, .reg .b => .rlB
  | .rl, .reg .c => .rlC
  | .rl, .reg .d => .rlD
  | .rl, .reg .e => .rlE
  | .rl, .reg .h => .rlH
  | .rl, .reg .l => .rlL
  | .rl, .indHl => .rlIndHl
  | .rl, .reg .a => .rlA
  | .rr, .reg .b => .rrB
  | .rr, .reg .c => .rrC
  | .rr, .reg .d => .rrD
  | .rr, .reg .e => .rrE
  | .rr, .reg .h => .rrH
  | .rr, .reg .l => .rrL
  | .rr, .indHl => .rrIndHl
  | .rr, .reg .a => .rrA
  | .sla, .reg .b => .slaB
  | .sla, .reg .c => .slaC
  | .sla, .reg .d => .slaD
  | .sla, .reg .e => .slaE
  | .sla, .reg .h => .slaH
  | .sla, .reg .l => .slaL
  | .sla, .indHl => .slaIndHl
  | .sla, .reg .a => .slaA
  | .sra, .reg .b => .sraB
  | .sra, .reg .c => .sraC
  | .sra, .reg .d => .sraD
  | .sra, .reg .e => .sraE
  | .sra, .reg .h => .sraH
  | .sra, .reg .l => .sraL
  | .sra, .indHl => .sraIndHl
  | .sra, .reg .a => .sraA
  | .swap, .reg .b => .swapB
  | .swap, .reg .c => .swapC
  | .swap, .reg .d => .swapD
  | .swap, .reg .e => .swapE
  | .swap, .reg .h => .swapH
  | .swap, .reg .l => .swapL
  | .swap, .indHl => .swapIndHl
  | .swap, .reg .a => .swapA
  | .srl, .reg .b => .srlB
  | .srl, .reg .c => .srlC
  | .srl, .reg .d => .srlD
  | .srl, .reg .e => .srlE
  | .srl, .reg .h => .srlH
  | .srl, .reg .l => .srlL
  | .srl, .indHl => .srlIndHl
  | .srl, .reg .a => .srlA

/-- BIT b,t (R230). -/
def Instr.cbBit (b : BitVec 3) : Target → Instr
  | .reg .b => pick8 b .bit0B .bit1B .bit2B .bit3B .bit4B .bit5B .bit6B .bit7B
  | .reg .c => pick8 b .bit0C .bit1C .bit2C .bit3C .bit4C .bit5C .bit6C .bit7C
  | .reg .d => pick8 b .bit0D .bit1D .bit2D .bit3D .bit4D .bit5D .bit6D .bit7D
  | .reg .e => pick8 b .bit0E .bit1E .bit2E .bit3E .bit4E .bit5E .bit6E .bit7E
  | .reg .h => pick8 b .bit0H .bit1H .bit2H .bit3H .bit4H .bit5H .bit6H .bit7H
  | .reg .l => pick8 b .bit0L .bit1L .bit2L .bit3L .bit4L .bit5L .bit6L .bit7L
  | .indHl => pick8 b .bit0IndHl .bit1IndHl .bit2IndHl .bit3IndHl .bit4IndHl .bit5IndHl .bit6IndHl .bit7IndHl
  | .reg .a => pick8 b .bit0A .bit1A .bit2A .bit3A .bit4A .bit5A .bit6A .bit7A

/-- RES b,t (R231). -/
def Instr.cbRes (b : BitVec 3) : Target → Instr
  | .reg .b => pick8 b .res0B .res1B .res2B .res3B .res4B .res5B .res6B .res7B
  | .reg .c => pick8 b .res0C .res1C .res2C .res3C .res4C .res5C .res6C .res7C
  | .reg .d => pick8 b .res0D .res1D .res2D .res3D .res4D .res5D .res6D .res7D
  | .reg .e => pick8 b .res0E .res1E .res2E .res3E .res4E .res5E .res6E .res7E
  | .reg .h => pick8 b .res0H .res1H .res2H .res3H .res4H .res5H .res6H .res7H
  | .reg .l => pick8 b .res0L .res1L .res2L .res3L .res4L .res5L .res6L .res7L
  | .indHl => pick8 b .res0IndHl .res1IndHl .res2IndHl .res3IndHl .res4IndHl .res5IndHl .res6IndHl .res7IndHl
  | .reg .a => pick8 b .res0A .res1A .res2A .res3A .res4A .res5A .res6A .res7A

/-- SET b,t (R232). -/
def Instr.cbSet (b : BitVec 3) : Target → Instr
  | .reg .b => pick8 b .set0B .set1B .set2B .set3B .set4B .set5B .set6B .set7B
  | .reg .c => pick8 b .set0C .set1C .set2C .set3C .set4C .set5C .set6C .set7C
  | .reg .d => pick8 b .set0D .set1D .set2D .set3D .set4D .set5D .set6D .set7D
  | .reg .e => pick8 b .set0E .set1E .set2E .set3E .set4E .set5E .set6E .set7E
  | .reg .h => pick8 b .set0H .set1H .set2H .set3H .set4H .set5H .set6H .set7H
  | .reg .l => pick8 b .set0L .set1L .set2L .set3L .set4L .set5L .set6L .set7L
  | .indHl => pick8 b .set0IndHl .set1IndHl .set2IndHl .set3IndHl .set4IndHl .set5IndHl .set6IndHl .set7IndHl
  | .reg .a => pick8 b .set0A .set1A .set2A .set3A .set4A .set5A .set6A .set7A

/-- LD with fields ddd and sss (R112: 0x76 is HALT in the place of LD (HL),(HL)). -/
def Instr.ldFields : Target → Target → Instr
  | .reg dst, .reg src => .ldRegReg dst src
  | .reg dst, .indHl => .ldRegInd dst
  | .indHl, .reg src => .ldIndReg src
  | .indHl, .indHl => .halt

/-- LD with field ddd and an immediate (R131, R134). -/
def Instr.ldFieldImm : Target → Byte → Instr
  | .reg dst, n => .ldRegImm dst n
  | .indHl, n => .ldIndHlN n

/-- The 8-bit ALU with field sss (R170 a, b). -/
def Instr.aluField : AluOp → Target → Instr
  | op, .reg s => .aluReg op s
  | op, .indHl => .aluInd op

/-- INC with field r (R179, R180). -/
def Instr.incField : Target → Instr
  | .reg r => .incReg r
  | .indHl => .incIndHl

/-- DEC with field r (R181, R182). -/
def Instr.decField : Target → Instr
  | .reg r => .decReg r
  | .indHl => .decIndHl

/-! ### The decoder -/

/-- What a base opcode byte says about its instruction (R120): a whole instruction, one that still needs an operand byte
or two (R101 formats B2n, B2e, B3nn), STOP with its ignored byte (R116), or the CB prefix (R265). -/
inductive BaseRow where
  | plain (i : Instr)
  | imm8 (mk : Byte → Instr)
  | imm16 (mk : Word → Instr)
  | stop
  | cb

/-- Quadrant 00 of the base map (R112), fields y = bits 5:3 and z = bits 2:0. -/
def quadrant0 (y z : BitVec 3) : BaseRow :=
  let p := pairOf (y.extractLsb' 1 2)
  let second := y.getLsbD 0
  pick8 z
    (pick8 y (.plain .nop) (.imm16 .ldIndNnSp) .stop (.imm8 .jrE) (.imm8 (.jrCond .nz)) (.imm8 (.jrCond .z))
      (.imm8 (.jrCond .nc)) (.imm8 (.jrCond .c)))
    (if second then .plain (.addHlPair p) else .imm16 (.ldPairImm p))
    (.plain (pick8 y .ldIndBcA .ldAIndBc .ldIndDeA .ldAIndDe .ldIndHlIncA .ldAIndHlInc .ldIndHlDecA .ldAIndHlDec))
    (.plain (if second then .decPair p else .incPair p))
    (.plain (.incField (targetOf y)))
    (.plain (.decField (targetOf y)))
    (.imm8 (.ldFieldImm (targetOf y)))
    (.plain (pick8 y .rlca .rrca .rla .rra .daa .cpl .scf .ccf))

/-- Quadrant 11 of the base map (R112), fields y and z as before; `op` is the whole byte, for the illegal ones (R114). -/
def quadrant3 (op : Byte) (y z : BitVec 3) : BaseRow :=
  let cc := condOf (y.extractLsb' 0 2)
  let qq := stackPairOf (y.extractLsb' 1 2)
  let second := y.getLsbD 0
  let bad : BaseRow := .plain (.illegal op)
  pick8 z
    (if y.getLsbD 2 then pick4 (y.extractLsb' 0 2) (.imm8 .ldhIndNA) (.imm8 .addSpE) (.imm8 .ldhAIndN) (.imm8 .ldHlSpE)
      else .plain (.retCond cc))
    (.plain (if second then pick4 (y.extractLsb' 1 2) .ret .reti .jpHl .ldSpHl else .popPair qq))
    (if y.getLsbD 2 then
        pick4 (y.extractLsb' 0 2) (.plain .ldIndCA) (.imm16 .ldIndNnA) (.plain .ldAIndC) (.imm16 .ldAIndNn)
      else .imm16 (.jpCond cc))
    (pick8 y (.imm16 .jpNn) .cb bad bad bad bad (.plain .di) (.plain .ei))
    (if y.getLsbD 2 then bad else .imm16 (.callCond cc))
    (if second then (if y = 1 then .imm16 .callNn else bad) else .plain (.pushPair qq))
    (.imm8 (.aluImm (aluOf y)))
    (.plain (.rst y))

/-- The base table (R112, R120): the row of an opcode byte. -/
def baseRow (op : Byte) : BaseRow :=
  let y := op.extractLsb' 3 3
  let z := op.extractLsb' 0 3
  pick4 (op.extractLsb' 6 2)
    (quadrant0 y z)
    (.plain (.ldFields (targetOf y) (targetOf z)))
    (.plain (.aluField (aluOf y) (targetOf z)))
    (quadrant3 op y z)

/-- The CB table (R111, R265): all 256 sub-opcodes are defined. -/
def decodeCb (sub : Byte) : Instr :=
  let y := sub.extractLsb' 3 3
  let t := targetOf (sub.extractLsb' 0 3)
  pick4 (sub.extractLsb' 6 2) (.cbRot (rotOf y) t) (.cbBit y t) (.cbRes y t) (.cbSet y t)

/-- Why bytes are no instruction: there are none, or an operand byte of the named opcode is missing. Every opcode byte
itself has a row (R114: the illegal ones decode to `illegal`). -/
inductive DecodeError where
  | noBytes
  | missingOperand (op : Byte)
  deriving DecidableEq, Repr

/-- Decode the instruction at the head of a byte list, and the bytes after it (R100, R107-R111, R120). STOP's second byte
is skipped whatever it is, and may be absent (R116; 92_eei_decisions.md D12). A prefix byte alone is `prefixCb`, the
handler of R265 before it has read its sub-opcode (log 10). -/
def decode : List Byte → Except DecodeError (Instr × List Byte)
  | [] => .error .noBytes
  | op :: rest =>
    match baseRow op, rest with
    | .plain i, _ => .ok (i, rest)
    | .imm8 mk, n :: rest => .ok (mk n, rest)
    | .imm8 _, [] => .error (.missingOperand op)
    | .imm16 mk, lo :: hi :: rest => .ok (mk (joinBytes hi lo), rest)
    | .imm16 _, _ => .error (.missingOperand op)
    | .stop, _ => .ok (.stop, rest.drop 1)
    | .cb, sub :: rest => .ok (decodeCb sub, rest)
    | .cb, [] => .ok (.prefixCb, [])

/-- How many operand bytes follow a base opcode (R101, R113); the CB sub-opcode is no operand byte (R100). -/
def operandBytes (op : Byte) : Nat :=
  match baseRow op with
  | .plain _ => 0
  | .imm8 _ => 1
  | .imm16 _ => 2
  | .stop => 1
  | .cb => 0

/-! ### The encoder -/

/-- The bytes of an instruction (30_encoding.md section 5), the one at its address first. STOP's ignored byte is written
as 0x00 (DESIGN CHOICE, log 9). -/
def encode : Instr → List Byte
  | .ldBcNn nn => [0x01, loByte nn, hiByte nn]
  | .ldBN n => [0x06, n]
  | .ldIndNnSp nn => [0x08, loByte nn, hiByte nn]
  | .ldCN n => [0x0E, n]
  | .ldDeNn nn => [0x11, loByte nn, hiByte nn]
  | .ldDN n => [0x16, n]
  | .jrE e => [0x18, e]
  | .ldEN n => [0x1E, n]
  | .jrNzE e => [0x20, e]
  | .ldHlNn nn => [0x21, loByte nn, hiByte nn]
  | .ldHN n => [0x26, n]
  | .jrZE e => [0x28, e]
  | .ldLN n => [0x2E, n]
  | .jrNcE e => [0x30, e]
  | .ldSpNn nn => [0x31, loByte nn, hiByte nn]
  | .ldIndHlN n => [0x36, n]
  | .jrCE e => [0x38, e]
  | .ldAN n => [0x3E, n]
  | .jpNzNn nn => [0xC2, loByte nn, hiByte nn]
  | .jpNn nn => [0xC3, loByte nn, hiByte nn]
  | .callNzNn nn => [0xC4, loByte nn, hiByte nn]
  | .addAN n => [0xC6, n]
  | .jpZNn nn => [0xCA, loByte nn, hiByte nn]
  | .callZNn nn => [0xCC, loByte nn, hiByte nn]
  | .callNn nn => [0xCD, loByte nn, hiByte nn]
  | .adcAN n => [0xCE, n]
  | .jpNcNn nn => [0xD2, loByte nn, hiByte nn]
  | .illegal op => [op]
  | .callNcNn nn => [0xD4, loByte nn, hiByte nn]
  | .subAN n => [0xD6, n]
  | .jpCNn nn => [0xDA, loByte nn, hiByte nn]
  | .callCNn nn => [0xDC, loByte nn, hiByte nn]
  | .sbcAN n => [0xDE, n]
  | .ldhIndNA n => [0xE0, n]
  | .andAN n => [0xE6, n]
  | .addSpE e => [0xE8, e]
  | .ldIndNnA nn => [0xEA, loByte nn, hiByte nn]
  | .xorAN n => [0xEE, n]
  | .ldhAIndN n => [0xF0, n]
  | .orAN n => [0xF6, n]
  | .ldHlSpE e => [0xF8, e]
  | .ldAIndNn nn => [0xFA, loByte nn, hiByte nn]
  | .cpAN n => [0xFE, n]
  | .nop => [0x00]
  | .ldIndBcA => [0x02]
  | .incBc => [0x03]
  | .incB => [0x04]
  | .decB => [0x05]
  | .rlca => [0x07]
  | .addHlBc => [0x09]
  | .ldAIndBc => [0x0A]
  | .decBc => [0x0B]
  | .incC => [0x0C]
  | .decC => [0x0D]
  | .rrca => [0x0F]
  | .stop => [0x10, 0x00]
  | .ldIndDeA => [0x12]
  | .incDe => [0x13]
  | .incD => [0x14]
  | .decD => [0x15]
  | .rla => [0x17]
  | .addHlDe => [0x19]
  | .ldAIndDe => [0x1A]
  | .decDe => [0x1B]
  | .incE => [0x1C]
  | .decE => [0x1D]
  | .rra => [0x1F]
  | .ldIndHlIncA => [0x22]
  | .incHl => [0x23]
  | .incH => [0x24]
  | .decH => [0x25]
  | .daa => [0x27]
  | .addHlHl => [0x29]
  | .ldAIndHlInc => [0x2A]
  | .decHl => [0x2B]
  | .incL => [0x2C]
  | .decL => [0x2D]
  | .cpl => [0x2F]
  | .ldIndHlDecA => [0x32]
  | .incSp => [0x33]
  | .incIndHl => [0x34]
  | .decIndHl => [0x35]
  | .scf => [0x37]
  | .addHlSp => [0x39]
  | .ldAIndHlDec => [0x3A]
  | .decSp => [0x3B]
  | .incA => [0x3C]
  | .decA => [0x3D]
  | .ccf => [0x3F]
  | .ldBB => [0x40]
  | .ldBC => [0x41]
  | .ldBD => [0x42]
  | .ldBE => [0x43]
  | .ldBH => [0x44]
  | .ldBL => [0x45]
  | .ldBIndHl => [0x46]
  | .ldBA => [0x47]
  | .ldCB => [0x48]
  | .ldCC => [0x49]
  | .ldCD => [0x4A]
  | .ldCE => [0x4B]
  | .ldCH => [0x4C]
  | .ldCL => [0x4D]
  | .ldCIndHl => [0x4E]
  | .ldCA => [0x4F]
  | .ldDB => [0x50]
  | .ldDC => [0x51]
  | .ldDD => [0x52]
  | .ldDE => [0x53]
  | .ldDH => [0x54]
  | .ldDL => [0x55]
  | .ldDIndHl => [0x56]
  | .ldDA => [0x57]
  | .ldEB => [0x58]
  | .ldEC => [0x59]
  | .ldED => [0x5A]
  | .ldEE => [0x5B]
  | .ldEH => [0x5C]
  | .ldEL => [0x5D]
  | .ldEIndHl => [0x5E]
  | .ldEA => [0x5F]
  | .ldHB => [0x60]
  | .ldHC => [0x61]
  | .ldHD => [0x62]
  | .ldHE => [0x63]
  | .ldHH => [0x64]
  | .ldHL => [0x65]
  | .ldHIndHl => [0x66]
  | .ldHA => [0x67]
  | .ldLB => [0x68]
  | .ldLC => [0x69]
  | .ldLD => [0x6A]
  | .ldLE => [0x6B]
  | .ldLH => [0x6C]
  | .ldLL => [0x6D]
  | .ldLIndHl => [0x6E]
  | .ldLA => [0x6F]
  | .ldIndHlB => [0x70]
  | .ldIndHlC => [0x71]
  | .ldIndHlD => [0x72]
  | .ldIndHlE => [0x73]
  | .ldIndHlH => [0x74]
  | .ldIndHlL => [0x75]
  | .halt => [0x76]
  | .ldIndHlA => [0x77]
  | .ldAB => [0x78]
  | .ldAC => [0x79]
  | .ldAD => [0x7A]
  | .ldAE => [0x7B]
  | .ldAH => [0x7C]
  | .ldAL => [0x7D]
  | .ldAIndHl => [0x7E]
  | .ldAA => [0x7F]
  | .addAB => [0x80]
  | .addAC => [0x81]
  | .addAD => [0x82]
  | .addAE => [0x83]
  | .addAH => [0x84]
  | .addAL => [0x85]
  | .addAIndHl => [0x86]
  | .addAA => [0x87]
  | .adcAB => [0x88]
  | .adcAC => [0x89]
  | .adcAD => [0x8A]
  | .adcAE => [0x8B]
  | .adcAH => [0x8C]
  | .adcAL => [0x8D]
  | .adcAIndHl => [0x8E]
  | .adcAA => [0x8F]
  | .subAB => [0x90]
  | .subAC => [0x91]
  | .subAD => [0x92]
  | .subAE => [0x93]
  | .subAH => [0x94]
  | .subAL => [0x95]
  | .subAIndHl => [0x96]
  | .subAA => [0x97]
  | .sbcAB => [0x98]
  | .sbcAC => [0x99]
  | .sbcAD => [0x9A]
  | .sbcAE => [0x9B]
  | .sbcAH => [0x9C]
  | .sbcAL => [0x9D]
  | .sbcAIndHl => [0x9E]
  | .sbcAA => [0x9F]
  | .andAB => [0xA0]
  | .andAC => [0xA1]
  | .andAD => [0xA2]
  | .andAE => [0xA3]
  | .andAH => [0xA4]
  | .andAL => [0xA5]
  | .andAIndHl => [0xA6]
  | .andAA => [0xA7]
  | .xorAB => [0xA8]
  | .xorAC => [0xA9]
  | .xorAD => [0xAA]
  | .xorAE => [0xAB]
  | .xorAH => [0xAC]
  | .xorAL => [0xAD]
  | .xorAIndHl => [0xAE]
  | .xorAA => [0xAF]
  | .orAB => [0xB0]
  | .orAC => [0xB1]
  | .orAD => [0xB2]
  | .orAE => [0xB3]
  | .orAH => [0xB4]
  | .orAL => [0xB5]
  | .orAIndHl => [0xB6]
  | .orAA => [0xB7]
  | .cpAB => [0xB8]
  | .cpAC => [0xB9]
  | .cpAD => [0xBA]
  | .cpAE => [0xBB]
  | .cpAH => [0xBC]
  | .cpAL => [0xBD]
  | .cpAIndHl => [0xBE]
  | .cpAA => [0xBF]
  | .retNz => [0xC0]
  | .popBc => [0xC1]
  | .pushBc => [0xC5]
  | .rst00 => [0xC7]
  | .retZ => [0xC8]
  | .ret => [0xC9]
  | .prefixCb => [0xCB]
  | .rst08 => [0xCF]
  | .retNc => [0xD0]
  | .popDe => [0xD1]
  | .pushDe => [0xD5]
  | .rst10 => [0xD7]
  | .retC => [0xD8]
  | .reti => [0xD9]
  | .rst18 => [0xDF]
  | .popHl => [0xE1]
  | .ldIndCA => [0xE2]
  | .pushHl => [0xE5]
  | .rst20 => [0xE7]
  | .jpHl => [0xE9]
  | .rst28 => [0xEF]
  | .popAf => [0xF1]
  | .ldAIndC => [0xF2]
  | .di => [0xF3]
  | .pushAf => [0xF5]
  | .rst30 => [0xF7]
  | .ldSpHl => [0xF9]
  | .ei => [0xFB]
  | .rst38 => [0xFF]
  | .rlcB => [0xCB, 0x00]
  | .rlcC => [0xCB, 0x01]
  | .rlcD => [0xCB, 0x02]
  | .rlcE => [0xCB, 0x03]
  | .rlcH => [0xCB, 0x04]
  | .rlcL => [0xCB, 0x05]
  | .rlcIndHl => [0xCB, 0x06]
  | .rlcA => [0xCB, 0x07]
  | .rrcB => [0xCB, 0x08]
  | .rrcC => [0xCB, 0x09]
  | .rrcD => [0xCB, 0x0A]
  | .rrcE => [0xCB, 0x0B]
  | .rrcH => [0xCB, 0x0C]
  | .rrcL => [0xCB, 0x0D]
  | .rrcIndHl => [0xCB, 0x0E]
  | .rrcA => [0xCB, 0x0F]
  | .rlB => [0xCB, 0x10]
  | .rlC => [0xCB, 0x11]
  | .rlD => [0xCB, 0x12]
  | .rlE => [0xCB, 0x13]
  | .rlH => [0xCB, 0x14]
  | .rlL => [0xCB, 0x15]
  | .rlIndHl => [0xCB, 0x16]
  | .rlA => [0xCB, 0x17]
  | .rrB => [0xCB, 0x18]
  | .rrC => [0xCB, 0x19]
  | .rrD => [0xCB, 0x1A]
  | .rrE => [0xCB, 0x1B]
  | .rrH => [0xCB, 0x1C]
  | .rrL => [0xCB, 0x1D]
  | .rrIndHl => [0xCB, 0x1E]
  | .rrA => [0xCB, 0x1F]
  | .slaB => [0xCB, 0x20]
  | .slaC => [0xCB, 0x21]
  | .slaD => [0xCB, 0x22]
  | .slaE => [0xCB, 0x23]
  | .slaH => [0xCB, 0x24]
  | .slaL => [0xCB, 0x25]
  | .slaIndHl => [0xCB, 0x26]
  | .slaA => [0xCB, 0x27]
  | .sraB => [0xCB, 0x28]
  | .sraC => [0xCB, 0x29]
  | .sraD => [0xCB, 0x2A]
  | .sraE => [0xCB, 0x2B]
  | .sraH => [0xCB, 0x2C]
  | .sraL => [0xCB, 0x2D]
  | .sraIndHl => [0xCB, 0x2E]
  | .sraA => [0xCB, 0x2F]
  | .swapB => [0xCB, 0x30]
  | .swapC => [0xCB, 0x31]
  | .swapD => [0xCB, 0x32]
  | .swapE => [0xCB, 0x33]
  | .swapH => [0xCB, 0x34]
  | .swapL => [0xCB, 0x35]
  | .swapIndHl => [0xCB, 0x36]
  | .swapA => [0xCB, 0x37]
  | .srlB => [0xCB, 0x38]
  | .srlC => [0xCB, 0x39]
  | .srlD => [0xCB, 0x3A]
  | .srlE => [0xCB, 0x3B]
  | .srlH => [0xCB, 0x3C]
  | .srlL => [0xCB, 0x3D]
  | .srlIndHl => [0xCB, 0x3E]
  | .srlA => [0xCB, 0x3F]
  | .bit0B => [0xCB, 0x40]
  | .bit0C => [0xCB, 0x41]
  | .bit0D => [0xCB, 0x42]
  | .bit0E => [0xCB, 0x43]
  | .bit0H => [0xCB, 0x44]
  | .bit0L => [0xCB, 0x45]
  | .bit0IndHl => [0xCB, 0x46]
  | .bit0A => [0xCB, 0x47]
  | .bit1B => [0xCB, 0x48]
  | .bit1C => [0xCB, 0x49]
  | .bit1D => [0xCB, 0x4A]
  | .bit1E => [0xCB, 0x4B]
  | .bit1H => [0xCB, 0x4C]
  | .bit1L => [0xCB, 0x4D]
  | .bit1IndHl => [0xCB, 0x4E]
  | .bit1A => [0xCB, 0x4F]
  | .bit2B => [0xCB, 0x50]
  | .bit2C => [0xCB, 0x51]
  | .bit2D => [0xCB, 0x52]
  | .bit2E => [0xCB, 0x53]
  | .bit2H => [0xCB, 0x54]
  | .bit2L => [0xCB, 0x55]
  | .bit2IndHl => [0xCB, 0x56]
  | .bit2A => [0xCB, 0x57]
  | .bit3B => [0xCB, 0x58]
  | .bit3C => [0xCB, 0x59]
  | .bit3D => [0xCB, 0x5A]
  | .bit3E => [0xCB, 0x5B]
  | .bit3H => [0xCB, 0x5C]
  | .bit3L => [0xCB, 0x5D]
  | .bit3IndHl => [0xCB, 0x5E]
  | .bit3A => [0xCB, 0x5F]
  | .bit4B => [0xCB, 0x60]
  | .bit4C => [0xCB, 0x61]
  | .bit4D => [0xCB, 0x62]
  | .bit4E => [0xCB, 0x63]
  | .bit4H => [0xCB, 0x64]
  | .bit4L => [0xCB, 0x65]
  | .bit4IndHl => [0xCB, 0x66]
  | .bit4A => [0xCB, 0x67]
  | .bit5B => [0xCB, 0x68]
  | .bit5C => [0xCB, 0x69]
  | .bit5D => [0xCB, 0x6A]
  | .bit5E => [0xCB, 0x6B]
  | .bit5H => [0xCB, 0x6C]
  | .bit5L => [0xCB, 0x6D]
  | .bit5IndHl => [0xCB, 0x6E]
  | .bit5A => [0xCB, 0x6F]
  | .bit6B => [0xCB, 0x70]
  | .bit6C => [0xCB, 0x71]
  | .bit6D => [0xCB, 0x72]
  | .bit6E => [0xCB, 0x73]
  | .bit6H => [0xCB, 0x74]
  | .bit6L => [0xCB, 0x75]
  | .bit6IndHl => [0xCB, 0x76]
  | .bit6A => [0xCB, 0x77]
  | .bit7B => [0xCB, 0x78]
  | .bit7C => [0xCB, 0x79]
  | .bit7D => [0xCB, 0x7A]
  | .bit7E => [0xCB, 0x7B]
  | .bit7H => [0xCB, 0x7C]
  | .bit7L => [0xCB, 0x7D]
  | .bit7IndHl => [0xCB, 0x7E]
  | .bit7A => [0xCB, 0x7F]
  | .res0B => [0xCB, 0x80]
  | .res0C => [0xCB, 0x81]
  | .res0D => [0xCB, 0x82]
  | .res0E => [0xCB, 0x83]
  | .res0H => [0xCB, 0x84]
  | .res0L => [0xCB, 0x85]
  | .res0IndHl => [0xCB, 0x86]
  | .res0A => [0xCB, 0x87]
  | .res1B => [0xCB, 0x88]
  | .res1C => [0xCB, 0x89]
  | .res1D => [0xCB, 0x8A]
  | .res1E => [0xCB, 0x8B]
  | .res1H => [0xCB, 0x8C]
  | .res1L => [0xCB, 0x8D]
  | .res1IndHl => [0xCB, 0x8E]
  | .res1A => [0xCB, 0x8F]
  | .res2B => [0xCB, 0x90]
  | .res2C => [0xCB, 0x91]
  | .res2D => [0xCB, 0x92]
  | .res2E => [0xCB, 0x93]
  | .res2H => [0xCB, 0x94]
  | .res2L => [0xCB, 0x95]
  | .res2IndHl => [0xCB, 0x96]
  | .res2A => [0xCB, 0x97]
  | .res3B => [0xCB, 0x98]
  | .res3C => [0xCB, 0x99]
  | .res3D => [0xCB, 0x9A]
  | .res3E => [0xCB, 0x9B]
  | .res3H => [0xCB, 0x9C]
  | .res3L => [0xCB, 0x9D]
  | .res3IndHl => [0xCB, 0x9E]
  | .res3A => [0xCB, 0x9F]
  | .res4B => [0xCB, 0xA0]
  | .res4C => [0xCB, 0xA1]
  | .res4D => [0xCB, 0xA2]
  | .res4E => [0xCB, 0xA3]
  | .res4H => [0xCB, 0xA4]
  | .res4L => [0xCB, 0xA5]
  | .res4IndHl => [0xCB, 0xA6]
  | .res4A => [0xCB, 0xA7]
  | .res5B => [0xCB, 0xA8]
  | .res5C => [0xCB, 0xA9]
  | .res5D => [0xCB, 0xAA]
  | .res5E => [0xCB, 0xAB]
  | .res5H => [0xCB, 0xAC]
  | .res5L => [0xCB, 0xAD]
  | .res5IndHl => [0xCB, 0xAE]
  | .res5A => [0xCB, 0xAF]
  | .res6B => [0xCB, 0xB0]
  | .res6C => [0xCB, 0xB1]
  | .res6D => [0xCB, 0xB2]
  | .res6E => [0xCB, 0xB3]
  | .res6H => [0xCB, 0xB4]
  | .res6L => [0xCB, 0xB5]
  | .res6IndHl => [0xCB, 0xB6]
  | .res6A => [0xCB, 0xB7]
  | .res7B => [0xCB, 0xB8]
  | .res7C => [0xCB, 0xB9]
  | .res7D => [0xCB, 0xBA]
  | .res7E => [0xCB, 0xBB]
  | .res7H => [0xCB, 0xBC]
  | .res7L => [0xCB, 0xBD]
  | .res7IndHl => [0xCB, 0xBE]
  | .res7A => [0xCB, 0xBF]
  | .set0B => [0xCB, 0xC0]
  | .set0C => [0xCB, 0xC1]
  | .set0D => [0xCB, 0xC2]
  | .set0E => [0xCB, 0xC3]
  | .set0H => [0xCB, 0xC4]
  | .set0L => [0xCB, 0xC5]
  | .set0IndHl => [0xCB, 0xC6]
  | .set0A => [0xCB, 0xC7]
  | .set1B => [0xCB, 0xC8]
  | .set1C => [0xCB, 0xC9]
  | .set1D => [0xCB, 0xCA]
  | .set1E => [0xCB, 0xCB]
  | .set1H => [0xCB, 0xCC]
  | .set1L => [0xCB, 0xCD]
  | .set1IndHl => [0xCB, 0xCE]
  | .set1A => [0xCB, 0xCF]
  | .set2B => [0xCB, 0xD0]
  | .set2C => [0xCB, 0xD1]
  | .set2D => [0xCB, 0xD2]
  | .set2E => [0xCB, 0xD3]
  | .set2H => [0xCB, 0xD4]
  | .set2L => [0xCB, 0xD5]
  | .set2IndHl => [0xCB, 0xD6]
  | .set2A => [0xCB, 0xD7]
  | .set3B => [0xCB, 0xD8]
  | .set3C => [0xCB, 0xD9]
  | .set3D => [0xCB, 0xDA]
  | .set3E => [0xCB, 0xDB]
  | .set3H => [0xCB, 0xDC]
  | .set3L => [0xCB, 0xDD]
  | .set3IndHl => [0xCB, 0xDE]
  | .set3A => [0xCB, 0xDF]
  | .set4B => [0xCB, 0xE0]
  | .set4C => [0xCB, 0xE1]
  | .set4D => [0xCB, 0xE2]
  | .set4E => [0xCB, 0xE3]
  | .set4H => [0xCB, 0xE4]
  | .set4L => [0xCB, 0xE5]
  | .set4IndHl => [0xCB, 0xE6]
  | .set4A => [0xCB, 0xE7]
  | .set5B => [0xCB, 0xE8]
  | .set5C => [0xCB, 0xE9]
  | .set5D => [0xCB, 0xEA]
  | .set5E => [0xCB, 0xEB]
  | .set5H => [0xCB, 0xEC]
  | .set5L => [0xCB, 0xED]
  | .set5IndHl => [0xCB, 0xEE]
  | .set5A => [0xCB, 0xEF]
  | .set6B => [0xCB, 0xF0]
  | .set6C => [0xCB, 0xF1]
  | .set6D => [0xCB, 0xF2]
  | .set6E => [0xCB, 0xF3]
  | .set6H => [0xCB, 0xF4]
  | .set6L => [0xCB, 0xF5]
  | .set6IndHl => [0xCB, 0xF6]
  | .set6A => [0xCB, 0xF7]
  | .set7B => [0xCB, 0xF8]
  | .set7C => [0xCB, 0xF9]
  | .set7D => [0xCB, 0xFA]
  | .set7E => [0xCB, 0xFB]
  | .set7H => [0xCB, 0xFC]
  | .set7L => [0xCB, 0xFD]
  | .set7IndHl => [0xCB, 0xFE]
  | .set7A => [0xCB, 0xFF]

/-! ### The words of spec/opcode_table.json -/

/-- The bytes of a table row whose bits are `w`, in memory order. The table numbers a CB row's two bytes as one number with
the prefix 0xCB in bits 15..8; every other row is one byte in bits 7..0. A 16-bit word without that prefix is read with
its first byte in bits 7..0 (log 11). -/
def tableBytes (nbits w : Nat) : List Byte :=
  if nbits = 16 ∧ BitVec.ofNat 8 (w / 256) = 0xCB then [0xCB, BitVec.ofNat 8 w]
  else (List.range (nbits / 8)).map fun k => BitVec.ofNat 8 (w / 256 ^ k)

/-- A table row's bytes with the operand bytes the table gives no bits, which are zeros (R101; the sub-opcode of a prefix
byte is no operand byte, R100). -/
def tableBytesWithOperands (nbits w : Nat) : List Byte :=
  match tableBytes nbits w with
  | [] => []
  | op :: rest => op :: rest ++ List.replicate (operandBytes op - rest.length) 0

/-- The instruction the decoder reads from a row of spec/opcode_table.json. -/
def decodeTableWord (nbits w : Nat) : Option Instr :=
  match decode (tableBytesWithOperands nbits w) with
  | .ok (i, _) => some i
  | .error _ => none

end Sys2Proof
end

