-- ==== Sys2Proof/Config.lean ====
section
/-! DEFINITION. What is fixed when the block is constructed (00_scope.md R6; 10_state.md R34, R36; 20_memory.md R85-R92):
the controller, the sizes of the banked stores, the header record and the parameters a step reads. The spec leaves no
instruction result open, so this file holds no opaque free value. -/

namespace Sys2Proof

/-- The controller families admitted (10_state.md R34): one case per supported family. -/
inductive Controller where
  | noBanking
  | banked
  deriving DecidableEq, Repr

/-- Parameter INTERRUPT_POLICY (60_exceptions.md R311). -/
inductive InterruptPolicy where
  | ignore
  | refuseWhenPending
  deriving DecidableEq, Repr

/-- Parameter UNSUPPORTED_CONTROLLER (20_memory.md R89): what construction does with a recognised family whose
behaviour the spec does not give. -/
inductive UnsupportedController where
  | refuse
  | noBanking
  | banked
  deriving DecidableEq, Repr

/-- The banking-controller code of the header, a closed enumeration (20_memory.md R87). -/
inductive ControllerKind where
  | noMbc
  | mbc1
  | mbc1Ram
  | mbc1RamBattery
  | mbc2
  | mbc2Battery
  | romRam
  | romRamBattery
  | mmm01
  | mmm01Ram
  | mmm01RamBattery
  | mbc3TimerBattery
  | mbc3TimerRamBattery
  | mbc3
  | mbc3Ram
  | mbc3RamBattery
  | mbc5
  | mbc5Ram
  | mbc5RamBattery
  | mbc5Rumble
  | mbc5RumbleRam
  | mbc5RumbleRamBattery
  | mbc6
  | mbc7SensorRumbleRamBattery
  | pocketCamera
  | bandaiTama5
  | huC3
  | huC1RamBattery
  | unknown (code : Byte)
  deriving DecidableEq, Repr

/-- The ROM size code of the header (20_memory.md R88): a size in bytes or the sentinel. Informational only. -/
inductive RomSize where
  | bytes (n : Nat)
  | unknownMax
  deriving DecidableEq, Repr

/-- The RAM size code of the header (20_memory.md R86): no RAM, banks of one size, or an unrecognised code. -/
inductive RamSpec where
  | absent
  | banks (count size : Nat)
  | unknown
  deriving DecidableEq, Repr

/-- The destination code of the header (20_memory.md R92). -/
inductive Destination where
  | japanese
  | nonJapanese
  deriving DecidableEq, Repr

/-- The cartridge header record (10_state.md R36; 20_memory.md R85): parsed once at construction, immutable. -/
structure Header where
  title       : List Byte
  kind        : ControllerKind
  romSize     : RomSize
  ramSpec     : RamSpec
  destination : Destination
  deriving DecidableEq, Repr

/-- The configuration of a constructed block (10_state.md R34, R36, R40 "Configuration (not state)"; 00_scope.md R6). -/
structure Config where
  controller      : Controller
  /-- `rom_bank_count`: banks of 0x4000 bytes in the image (20_memory.md R90). -/
  romBankCount    : Nat
  /-- `ram_bank_count`; 0 means no cartridge RAM (20_memory.md R86, R91). -/
  ramBankCount    : Nat
  /-- `ram_bank_size` in bytes; 0 when there is no RAM (20_memory.md R86). -/
  ramBankSize     : Nat
  header          : Header
  /-- Parameter DISABLED_RAM_READ (20_memory.md R55; 92_eei_decisions.md D3). -/
  disabledRamRead : Byte
  /-- Parameter INTERRUPT_POLICY (60_exceptions.md R311; 92_eei_decisions.md D9). -/
  interruptPolicy : InterruptPolicy
  deriving DecidableEq, Repr

/-- The default of DISABLED_RAM_READ (00_scope.md R6). -/
def Config.defaultDisabledRamRead : Byte := 0xFF

/-- Size of a ROM bank (00_scope.md R6; 20_memory.md R70). -/
def Config.romBankSize : Nat := 0x4000

end Sys2Proof
end

