-- ==== Sys2Proof/Machine/State.lean ====
section
/-! DEFINITION. The state of the block as plain data (10_state.md R20-R36, R40; 60_exceptions.md R307), the reasons a step
can stop, and the state right after construction (70_reset_and_hazards.md R332-R337). -/

namespace Sys2Proof.Machine

/-- A byte store of the bus (10_state.md R35) as (offset, byte) cells in one canonical form: offsets strictly rising, no
cell equal to what an unlisted offset reads as (`Memory.wf` in Machine/Ops.lean). -/
abbrev Memory := List Host.Cell

/-- The run state (10_state.md R31). -/
inductive RunState where
  | running
  | halted
  | stopped
  deriving DecidableEq, Repr

/-- The four fault kinds (60_exceptions.md R300). -/
inductive FaultKind where
  | illegalOpcode
  | unusableAddress
  | romBankOutOfRange
  | ramBankOutOfRange
  deriving DecidableEq, Repr

/-- The fault record (60_exceptions.md R307). -/
structure FaultRecord where
  kind       : FaultKind
  /-- Address of the first byte of the instruction whose step faulted. -/
  pc         : Word
  /-- The base opcode byte the step fetched; none when the fetch itself faulted. -/
  opcode     : Option Byte
  /-- The CB sub-opcode when one was read. -/
  sub        : Option Byte
  /-- The bus address of the faulting access (for IllegalOpcode, the pc). -/
  address    : Word
  /-- (bank, offset) for the two bank faults. -/
  bankOffset : Option (Nat × Nat)
  deriving DecidableEq, Repr

end Sys2Proof.Machine

namespace Sys2Proof.Machine

/-- The complete state of the block (10_state.md R40), the CPU's cells first, then the bus. `config` is the spec's
"Configuration (not state)": it is held here so that a step is a function of the state alone; no step writes it. -/
structure State where
  /-- Accumulator (R20). -/
  a : Byte
  /-- Flag register: Z N H C in bits 7..4, low nibble zero (R23, R24). -/
  f : Byte
  b : Byte
  c : Byte
  d : Byte
  e : Byte
  h : Byte
  l : Byte
  /-- `stack_pointer` (R28). -/
  sp : Word
  /-- `program_counter` (R27). -/
  pc : Word
  /-- `interrupts_enabled` (R29). -/
  ime : Bool
  /-- The last fetched opcode byte, for diagnostics only (R30). -/
  currentOp : Byte
  /-- Run state (R31). -/
  run : RunState
  /-- The record of the first fault, if any (R32). -/
  fault : Option FaultRecord
  /-- Gates cartridge RAM (R33). -/
  ramEnabled : Bool
  /-- ROM bank in the window 0x4000-0x7FFF (R33): 5 significant bits. -/
  activeRomBank : BitVec 5
  /-- RAM bank in the window 0xA000-0xBFFF (R33): 2 significant bits. -/
  activeRamBank : BitVec 2
  /-- Stored, read by no rule (R33; 20_memory.md R67). -/
  bankingMode : BitVec 2
  /-- The cartridge image: bank i holds bytes [i * 0x4000, (i + 1) * 0x4000) (R35; 20_memory.md R90). -/
  rom : Memory
  /-- Cartridge RAM: bank i holds bytes [i * ram_bank_size, (i + 1) * ram_bank_size) (R35). -/
  cram : Memory
  vram : Memory
  wram : Memory
  oam : Memory
  io : Memory
  hram : Memory
  /-- The interrupt-enable byte at 0xFFFF (R35; 20_memory.md R62). -/
  ie : Byte
  config : Config
  deriving DecidableEq, Repr

/-- Why a step stops. The first four are the spec's fault kinds (60_exceptions.md R300): each carries the state the fault
leaves (R306, R308), whose `fault` field holds the record (R307). The last three are the states that have no step
(00_scope.md R13; 10_state.md R31, R32). -/
inductive Fault where
  /-- Raised by the illegal opcodes (R301). Safe: the spec's own outcome. -/
  | illegalOpcode (left : State)
  /-- Raised by any bus access, fetch included, to 0xFEA0-0xFEFF (R302). Safe: the spec's own outcome. -/
  | unusableAddress (left : State)
  /-- Raised by a read of 0x4000-0x7FFF whose bank is past the image (R303). Safe: the spec's own outcome. -/
  | romBankOutOfRange (left : State)
  /-- Raised by an access to enabled cartridge RAM past its banks or bank size (R304). Safe: the spec's own outcome. -/
  | ramBankOutOfRange (left : State)
  /-- Raised by step in a state whose `fault` holds a record: no further step (R306; 10_state.md R32). Safe. -/
  | noStepAfterFault (record : FaultRecord)
  /-- Raised by step in the Halted state, which has no step (00_scope.md R13). Safe. -/
  | noStepHalted
  /-- Raised by step in the Stopped state, which has no step (00_scope.md R13). Safe. -/
  | noStepStopped
  deriving DecidableEq, Repr

/-- Why a step gives no meaning (00_scope.md R12 `refuse`). -/
inductive Refusal where
  /-- Raised by exec for an instruction that has no meaning yet; no arm of this model raises it. Safe. -/
  | notModelled (mnemonic : String)
  /-- Raised before the fetch under INTERRUPT_POLICY = refuse_when_pending (60_exceptions.md R311). Safe. -/
  | interruptWouldBeTaken
  /-- Raised by HALT under the same policy with an interrupt pending (46_system.md R262). Safe. -/
  | haltWithInterruptPending
  deriving DecidableEq, Repr

/-- The outcome of a step (00_scope.md R13). -/
abbrev Result := Host.Outcome State Fault Refusal

/-- The header record of a blank image, every byte zero (20_memory.md R85-R88, R92). -/
def State.resetHeader : Header :=
  { title := [], kind := .noMbc, romSize := .bytes 0x8000, ramSpec := .absent, destination := .japanese }

/-- The configuration of State.reset: the smallest image construction accepts, blank, so NoBanking without RAM
(70_reset_and_hazards.md R331; DESIGN CHOICE, log 3), and the defaults of the parameters (00_scope.md R6, logs 5, 6). -/
def State.resetConfig : Config :=
  { controller := .noBanking, romBankCount := 2, ramBankCount := 0, ramBankSize := 0, header := State.resetHeader,
    disabledRamRead := 0xFF, interruptPolicy := .ignore }

/-- The machine right after construction (70_reset_and_hazards.md R332-R337). A, F, B, C, D, E, H, L and SP are the values
R332 and R334 suggest (PRESUMED, the DMG's, log 1); PC, IME, current_op, run, fault and the bank fields are the spec's
(R333, R335, R336); memory lists nothing (log 2) and the image is blank (log 3). -/
def State.reset : State :=
  { a := 0x01, f := 0xB0, b := 0x00, c := 0x13, d := 0x00, e := 0xD8, h := 0x01, l := 0x4D,
    sp := 0xFFFE, pc := 0x0100, ime := false, currentOp := 0x00, run := .running, fault := none,
    ramEnabled := false, activeRomBank := 1, activeRamBank := 0, bankingMode := 0,
    rom := [], cram := [], vram := [], wram := [], oam := [], io := [], hram := [], ie := 0x00,
    config := State.resetConfig }

end Sys2Proof.Machine
end

