-- ==== Sys2Proof/Machine/Ops.lean ====
section
/-! DEFINITION. The shared operations of the bus and of faults: the byte stores, the read and write decode with the bank
controller (20_memory.md), raising a fault (60_exceptions.md R306-R308), and the sequencing of bus accesses and of the PC
update that every meaning is written in (00_scope.md R11; 30_encoding.md R121). -/

namespace Sys2Proof.Machine

/-! ### Byte stores -/

/-- What an offset no cell lists reads as: zero (INITIAL_MEMORY all zero, 70_reset_and_hazards.md R337; DESIGN CHOICE,
log 2). -/
def Memory.unlisted : Byte := 0x00

/-- The byte of a store at an offset. -/
def Memory.get : Memory → Nat → Byte
  | [], _ => Memory.unlisted
  | (k, v) :: m, n => if k = n then v else Memory.get m n

/-- The store without any cell at an offset. -/
def Memory.erase (m : Memory) (n : Nat) : Memory := m.filter fun cell => cell.1 != n

/-- The store with a cell at an offset, placed in rising order. -/
def Memory.insert : Memory → Nat → Byte → Memory
  | [], n, v => [(n, v)]
  | (k, w) :: m, n, v =>
    if n < k then (n, v) :: (k, w) :: m
    else if n = k then (n, v) :: m
    else (k, w) :: Memory.insert m n v

/-- Write one byte of a store, keeping the canonical form: writing what an unlisted offset reads as removes the cell. -/
def Memory.set (m : Memory) (n : Nat) (v : Byte) : Memory :=
  if v = Memory.unlisted then Memory.erase m n else Memory.insert m n v

/-- The canonical form: offsets strictly rising, no cell equal to what an unlisted offset reads as. -/
abbrev Memory.wf (m : Memory) : Prop :=
  m.Pairwise (fun x y => x.1 < y.1) ∧ ∀ cell ∈ m, cell.2 ≠ Memory.unlisted

/-- Every listed offset lies in a store of `size` bytes. -/
abbrev Memory.below (m : Memory) (size : Nat) : Prop := ∀ cell ∈ m, cell.1 < size

/-! ### Address decode -/

/-- Where a bus address leads (20_memory.md R51): a byte of one of the stores of 10_state.md R35, or cartridge RAM while it
is disabled, which has no byte behind it (R55, R68). -/
inductive Place where
  | rom (index : Nat)
  | vram (offset : Nat)
  | cram (index : Nat)
  | cramDisabled
  | wram (offset : Nat)
  | oam (offset : Nat)
  | io (offset : Nat)
  | hram (offset : Nat)
  | ie
  deriving DecidableEq, Repr

/-- The fault a bus access raises, with what its record keeps (60_exceptions.md R300, R307). -/
structure BusFault where
  kind       : FaultKind
  address    : Word
  bankOffset : Option (Nat × Nat)
  deriving DecidableEq, Repr

/-- `rom_bank_read(b, off)` up to the byte (20_memory.md R52, R70): a bank past the image faults. -/
def romPlace (s : State) (address : Word) (bank offset : Nat) : Except BusFault Place :=
  if bank < s.config.romBankCount then .ok (.rom (bank * Config.romBankSize + offset))
  else .error { kind := .romBankOutOfRange, address := address, bankOffset := some (bank, offset) }

/-- `window_bank` (20_memory.md R53): the active bank under Banked, bank 1 under NoBanking. -/
def windowBank (s : State) : Nat :=
  match s.config.controller with
  | .banked => s.activeRomBank.toNat
  | .noBanking => 1

/-- The RAM bank of 0xA000-0xBFFF (20_memory.md R55, R68): the active bank under Banked, bank 0 under NoBanking. -/
def ramBank (s : State) : Nat :=
  match s.config.controller with
  | .banked => s.activeRamBank.toNat
  | .noBanking => 0

/-- The cartridge RAM window (20_memory.md R55, R68): nothing behind it while RAM is disabled; enabled, a bank or offset
past the store faults. -/
def cramPlace (s : State) (address : Word) (offset : Nat) : Except BusFault Place :=
  if s.ramEnabled then
    if ramBank s < s.config.ramBankCount ∧ offset < s.config.ramBankSize then
      .ok (.cram (ramBank s * s.config.ramBankSize + offset))
    else .error { kind := .ramBankOutOfRange, address := address, bankOffset := some (ramBank s, offset) }
  else .ok .cramDisabled

/-- The address decode (20_memory.md R51): eleven ranges covering 0x0000-0xFFFF without gap or overlap. -/
def place (s : State) (address : Word) : Except BusFault Place :=
  let n := address.toNat
  if n < 0x4000 then romPlace s address 0 n
  else if n < 0x8000 then romPlace s address (windowBank s) (n - 0x4000)
  else if n < 0xA000 then .ok (.vram (n - 0x8000))
  else if n < 0xC000 then cramPlace s address (n - 0xA000)
  else if n < 0xE000 then .ok (.wram (n - 0xC000))
  else if n < 0xFE00 then .ok (.wram (n - 0xE000))
  else if n < 0xFEA0 then .ok (.oam (n - 0xFE00))
  else if n < 0xFF00 then .error { kind := .unusableAddress, address := address, bankOffset := none }
  else if n < 0xFF80 then .ok (.io (n - 0xFF00))
  else if n < 0xFFFF then .ok (.hram (n - 0xFF80))
  else .ok .ie

/-- The byte at a place (20_memory.md R52-R62); DISABLED_RAM_READ where cartridge RAM is disabled (R55, log 5). -/
def readPlace (s : State) : Place → Byte
  | .rom n => Memory.get s.rom n
  | .vram n => Memory.get s.vram n
  | .cram n => Memory.get s.cram n
  | .cramDisabled => s.config.disabledRamRead
  | .wram n => Memory.get s.wram n
  | .oam n => Memory.get s.oam n
  | .io n => Memory.get s.io n
  | .hram n => Memory.get s.hram n
  | .ie => s.ie

/-- Store a byte at a place (20_memory.md R63, R68): ROM has no write, and a write to disabled RAM is discarded. -/
def writePlace (s : State) (p : Place) (v : Byte) : State :=
  match p with
  | .rom _ => s
  | .vram n => { s with vram := Memory.set s.vram n v }
  | .cram n => { s with cram := Memory.set s.cram n v }
  | .cramDisabled => s
  | .wram n => { s with wram := Memory.set s.wram n v }
  | .oam n => { s with oam := Memory.set s.oam n v }
  | .io n => { s with io := Memory.set s.io n v }
  | .hram n => { s with hram := Memory.set s.hram n v }
  | .ie => { s with ie := v }

/-- The ROM bank a write to 0x2000-0x3FFF selects (20_memory.md R65): the low five bits, 0 read as 1. -/
def romBankSelect (v : Byte) : BitVec 5 :=
  let bank := v.extractLsb' 0 5
  if bank = 0 then 1 else bank

/-- A control write, 0x0000-0x7FFF (20_memory.md R63-R67); under NoBanking it has no effect (R69). -/
def controlWrite (s : State) (address : Word) (v : Byte) : State :=
  match s.config.controller with
  | .noBanking => s
  | .banked =>
    let n := address.toNat
    if n < 0x2000 then { s with ramEnabled := (v &&& 0x0F) == 0x0A }
    else if n < 0x4000 then { s with activeRomBank := romBankSelect v }
    else if n < 0x6000 then { s with activeRamBank := v.extractLsb' 0 2 }
    else { s with bankingMode := v.extractLsb' 0 2 }

/-- `MemRead(a, 1)` (00_scope.md R11; 20_memory.md R51): one bus read; it changes no state (R76). -/
def busRead (s : State) (address : Word) : Except BusFault Byte :=
  match place s address with
  | .ok p => .ok (readPlace s p)
  | .error e => .error e

/-- `MemWrite(a, 1, v)` (00_scope.md R11; 20_memory.md R63): one bus write. -/
def busWrite (s : State) (address : Word) (v : Byte) : Except BusFault State :=
  if address.toNat < 0x8000 then .ok (controlWrite s address v)
  else
    match place s address with
    | .ok p => .ok (writePlace s p v)
    | .error e => .error e

/-! ### Taking a fault -/

/-- The numeric code of a fault kind (60_exceptions.md R300; 92_eei_decisions.md D19). -/
def FaultKind.code : FaultKind → Nat
  | .illegalOpcode => 1
  | .unusableAddress => 2
  | .romBankOutOfRange => 3
  | .ramBankOutOfRange => 4

/-- The stop reason of a fault kind, with the state the fault leaves (60_exceptions.md R306). -/
def Fault.ofKind : FaultKind → State → Fault
  | .illegalOpcode, left => .illegalOpcode left
  | .unusableAddress, left => .unusableAddress left
  | .romBankOutOfRange, left => .romBankOutOfRange left
  | .ramBankOutOfRange, left => .ramBankOutOfRange left

/-- Take a fault (60_exceptions.md R306-R308): the record is written to `fault`, everything done before the faulting access
stays, PC keeps the instruction's address, and the step ends. There is no handler and no vector (R313). `opcode` is the
byte this step has fetched, none when the fetch itself faulted; `sub` the CB sub-opcode when one was read. -/
def takeFault (opcode sub : Option Byte) (s : State) (e : BusFault) : Fault :=
  Fault.ofKind e.kind
    { s with
      fault := some
        { kind := e.kind, pc := s.pc, opcode := opcode, sub := sub, address := e.address, bankOffset := e.bankOffset } }

/-- A fault raised by an instruction's own access: its opcode is in `current_op`, where the fetch put it
(30_encoding.md R122). -/
def raise (sub : Option Byte) (s : State) (e : BusFault) : Result :=
  .fault (takeFault (some s.currentOp) sub s e)

/-- The illegal-opcode fault (60_exceptions.md R301, R307): its address is the pc. -/
def illegalOpcodeFault (s : State) : BusFault :=
  { kind := .illegalOpcode, address := s.pc, bankOffset := none }

/-! ### Sequencing -/

/-- One bus read, then the rest of the rule; a fault ends the step there (60_exceptions.md R309). -/
def readThen (sub : Option Byte) (s : State) (address : Word) (rest : Byte → Result) : Result :=
  match busRead s address with
  | .ok v => rest v
  | .error e => raise sub s e

/-- One bus write, then the rest of the rule in the state it leaves (20_memory.md R78, R82). -/
def writeThen (sub : Option Byte) (s : State) (address : Word) (v : Byte) (rest : State → Result) : Result :=
  match busWrite s address v with
  | .ok s' => rest s'
  | .error e => raise sub s e

/-- `PC <- v` (30_encoding.md R121). -/
def setPc (s : State) (v : Word) : State := { s with pc := v }

/-- `SP <- v` (10_state.md R28). -/
def setSp (s : State) (v : Word) : State := { s with sp := v }

/-- `IME <- b` (10_state.md R29). -/
def setIme (s : State) (b : Bool) : State := { s with ime := b }

/-- `run <- r` (10_state.md R31). -/
def setRun (s : State) (r : RunState) : State := { s with run := r }

/-- `current_op <- op`, the fetch's write (30_encoding.md R122). -/
def setCurrentOp (s : State) (op : Byte) : State := { s with currentOp := op }

/-- `PC <- PC + length` (30_encoding.md R121), wrapping (20_memory.md R93). -/
def advance (s : State) (length : Word) : State := setPc s (s.pc + length)

/-- The end of a rule that does not transfer control: PC advances, and the step has completed (R121). -/
def finish (s : State) (length : Word) : Result := .next (advance s length)

/-- `Push16(v)`, then the rest (20_memory.md R73): high byte at SP - 1, then low byte at SP - 2, then SP <- SP - 2. -/
def push16 (s : State) (v : Word) (rest : State → Result) : Result :=
  writeThen none s (s.sp - 1) (hiByte v) fun s1 =>
    writeThen none s1 (s.sp - 2) (loByte v) fun s2 => rest (setSp s2 (s.sp - 2))

/-- `Pop16()`, then the rest (20_memory.md R73): low byte at SP, high byte at SP + 1, then SP <- SP + 2. -/
def pop16 (s : State) (rest : State → Word → Result) : Result :=
  readThen none s s.sp fun lo =>
    readThen none s (s.sp + 1) fun hi => rest (setSp s (s.sp + 2)) (joinBytes hi lo)

/-! ### Interrupts -/

/-- `IE & IF & 0x1F` read directly from the two stores (60_exceptions.md R311; 46_system.md R262, whose two reads cannot
fault): IF is the byte 0xFF0F of the I/O block. -/
def pendingInterrupts (s : State) : Byte := s.ie &&& Memory.get s.io 0x0F &&& 0x1F

/-- The check before each fetch (60_exceptions.md R311): refuse under refuse_when_pending with IME set and one pending. -/
def interruptWouldBeTaken (s : State) : Bool :=
  s.config.interruptPolicy == .refuseWhenPending && s.ime && pendingInterrupts s != 0

end Sys2Proof.Machine
end

