-- ==== Sys2Proof/Machine/Operands.lean ====
section
/-! DEFINITION. Register operands and addresses: the 8-bit cells, the pair views (10_state.md R20-R23), conditions (R39),
displacements (00_scope.md R9) and high-page addresses (30_encoding.md R110). -/

namespace Sys2Proof.Machine

/-- `R8[r]` (00_scope.md R10). -/
def reg8 (s : State) : Reg8 → Byte
  | .b => s.b
  | .c => s.c
  | .d => s.d
  | .e => s.e
  | .h => s.h
  | .l => s.l
  | .a => s.a

/-- `R8[r] <- v` (00_scope.md R10). -/
def setReg8 (s : State) (r : Reg8) (v : Byte) : State :=
  match r with
  | .b => { s with b := v }
  | .c => { s with c := v }
  | .d => { s with d := v }
  | .e => { s with e := v }
  | .h => { s with h := v }
  | .l => { s with l := v }
  | .a => { s with a := v }

/-- `R8[F] <- v` stores `v & 0xF0` (10_state.md R23). -/
def setF (s : State) (v : Byte) : State := { s with f := v &&& 0xF0 }

/-- A pair of field `pp`: BC, DE, HL are views (10_state.md R21), SP is a register (R28). -/
def pair (s : State) : Pair → Word
  | .bc => joinBytes s.b s.c
  | .de => joinBytes s.d s.e
  | .hl => joinBytes s.h s.l
  | .sp => s.sp

/-- Write a pair of field `pp` (10_state.md R22): exactly its two cells, or SP. -/
def setPair (s : State) (p : Pair) (v : Word) : State :=
  match p with
  | .bc => setReg8 (setReg8 s .b (hiByte v)) .c (loByte v)
  | .de => setReg8 (setReg8 s .d (hiByte v)) .e (loByte v)
  | .hl => setReg8 (setReg8 s .h (hiByte v)) .l (loByte v)
  | .sp => setSp s v

/-- A pair of field `qq` (10_state.md R21). -/
def stackPair (s : State) : StackPair → Word
  | .bc => pair s .bc
  | .de => pair s .de
  | .hl => pair s .hl
  | .af => joinBytes s.a s.f

/-- Write a pair of field `qq` (10_state.md R22); F's low nibble stays zero (R23). -/
def setStackPair (s : State) (q : StackPair) (v : Word) : State :=
  match q with
  | .bc => setPair s .bc v
  | .de => setPair s .de v
  | .hl => setPair s .hl v
  | .af => setF (setReg8 s .a (hiByte v)) (loByte v)

/-- The address HL of the (HL) operands (30_encoding.md R102). -/
def hlAddress (s : State) : Word := pair s .hl

/-- High-page address `0xFF00 + n` (30_encoding.md R110). -/
def highPage (n : Byte) : Word := joinBytes 0xFF n

/-- `sext_16(e)` (00_scope.md R9): `e` below 0x80, `e + 0xFF00` otherwise. -/
def sext16 (e : Byte) : Word := if e.toNat < 0x80 then joinBytes 0x00 e else joinBytes 0xFF e

/-- Read the operand named by field `r`, then the rest of the rule (30_encoding.md R102). -/
def readTarget (sub : Option Byte) (s : State) (t : Target) (rest : Byte → Result) : Result :=
  match t with
  | .reg r => rest (reg8 s r)
  | .indHl => readThen sub s (hlAddress s) rest

/-- Write the operand named by field `r`, then the rest of the rule (30_encoding.md R102). -/
def writeTarget (sub : Option Byte) (s : State) (t : Target) (v : Byte) (rest : State → Result) : Result :=
  match t with
  | .reg r => rest (setReg8 s r v)
  | .indHl => writeThen sub s (hlAddress s) v rest

end Sys2Proof.Machine
end

