-- ==== Sys2Proof/Machine/Flags.lean ====
section
/-! DEFINITION. The flags (10_state.md R24-R26, R39) and every result and flag computation of the arithmetic, logic, rotate
and bit families (41_alu8.md, 42_alu16.md, 43_rotate_shift.md, 44_bit.md). A carry test is over the unbounded natural
numbers, as 00_scope.md R8 writes it. -/

namespace Sys2Proof.Machine

/-- The four flags (10_state.md R24). -/
inductive Flag where
  | z | n | h | c
  deriving DecidableEq, Repr

/-- The bit of a flag in F (10_state.md R24): Z 7, N 6, H 5, C 4. -/
def Flag.bit : Flag → Nat
  | .z => 7
  | .n => 6
  | .h => 5
  | .c => 4

/-- `is_flag_set(f)` (10_state.md R25). -/
def flagOf (f : Byte) (g : Flag) : Bool := f.getLsbD g.bit

/-- `toggle_flag(f, cond)`, written `F.f <- cond` (10_state.md R25): writes that one bit. -/
def putFlag (f : Byte) (g : Flag) (on : Bool) : Byte :=
  let mask : Byte := 1 <<< g.bit
  if on then f ||| mask else f &&& ~~~mask

/-- The "Flags" line of an instruction's rule (10_state.md R26; 30_encoding.md R123): per flag the value written, or `none`
for `-`, unchanged. -/
structure FlagUpdate where
  z : Option Bool
  n : Option Bool
  h : Option Bool
  c : Option Bool
  deriving DecidableEq, Repr

/-- Write one flag, or leave it (10_state.md R26). -/
def putFlag? (f : Byte) (g : Flag) : Option Bool → Byte
  | some on => putFlag f g on
  | none => f

/-- F after a flag update (10_state.md R25, R26); the four writes are to independent bits, so their order is free. -/
def updateFlags (f : Byte) (u : FlagUpdate) : Byte :=
  putFlag? (putFlag? (putFlag? (putFlag? f .z u.z) .n u.n) .h u.h) .c u.c

/-- The state after a flag update. -/
def withFlags (s : State) (u : FlagUpdate) : State := { s with f := updateFlags s.f u }

/-- `cond(cc)` (10_state.md R39). -/
def condHolds (s : State) : Cond → Bool
  | .nz => !flagOf s.f .z
  | .z => flagOf s.f .z
  | .nc => !flagOf s.f .c
  | .c => flagOf s.f .c

/-- `v & 0x0F` as a number (00_scope.md R7). -/
def lowNibble (v : Byte) : Nat := (v &&& 0x0F).toNat

/-! ### 8-bit arithmetic and logic -/

/-- The result of an 8-bit ALU operation before it is stored (41_alu8.md R171-R178); `c` is F.C before. -/
def aluResult (op : AluOp) (a x : Byte) (c : Bool) : Byte :=
  match op with
  | .add => a + x
  | .adc => a + x + (if c then 1 else 0)
  | .sub => a - x
  | .sbc => a - x - (if c then 1 else 0)
  | .and => a &&& x
  | .xor => a ^^^ x
  | .or => a ||| x
  | .cp => a - x

/-- The flags of an 8-bit ALU operation (41_alu8.md R171-R178). -/
def aluFlags (op : AluOp) (a x : Byte) (c : Bool) : FlagUpdate :=
  let z := some (aluResult op a x c == 0)
  match op with
  | .add => ⟨z, some false, some (lowNibble a + lowNibble x > 0x0F), some (a.toNat + x.toNat > 0xFF)⟩
  | .adc =>
    ⟨z, some false, some (lowNibble a + lowNibble x + c.toNat > 0x0F), some (a.toNat + x.toNat + c.toNat > 0xFF)⟩
  | .sub => ⟨z, some true, some (lowNibble a < lowNibble x), some (a.toNat < x.toNat)⟩
  | .sbc => ⟨z, some true, some (lowNibble a < lowNibble x + c.toNat), some (a.toNat < x.toNat + c.toNat)⟩
  | .and => ⟨z, some false, some true, some false⟩
  | .xor => ⟨z, some false, some false, some false⟩
  | .or => ⟨z, some false, some false, some false⟩
  | .cp => ⟨z, some true, some (lowNibble a < lowNibble x), some (a.toNat < x.toNat)⟩

/-- The flags of INC r and INC (HL) on a value (41_alu8.md R179, R180): C unchanged. -/
def incFlags (v : Byte) : FlagUpdate := ⟨some (v + 1 == 0), some false, some (lowNibble v == 0x0F), none⟩

/-- The flags of DEC r and DEC (HL) on a value (41_alu8.md R181, R182): C unchanged. -/
def decFlags (v : Byte) : FlagUpdate := ⟨some (v - 1 == 0), some true, some (lowNibble v == 0x00), none⟩

/-- DAA (41_alu8.md R183): the adjusted accumulator and the new C, from A, N, H and C. -/
def daaResult (a : Byte) (n h c : Bool) : Byte × Bool :=
  if n then
    let adj : Byte := (if c then 0x60 else 0x00) ||| (if h then 0x06 else 0x00)
    (a - adj, c)
  else
    let high := c || decide (a.toNat > 0x99)
    let low := h || decide (lowNibble a > 0x09)
    let adj : Byte := (if high then 0x60 else 0x00) ||| (if low then 0x06 else 0x00)
    (a + adj, high)

/-! ### 16-bit arithmetic -/

/-- The flags of ADD HL,rr (42_alu16.md R201): Z unchanged, H from bit 11, C from bit 15. -/
def addHlFlags (h x : Word) : FlagUpdate :=
  ⟨none, some false, some ((h &&& 0x0FFF).toNat + (x &&& 0x0FFF).toNat > 0x0FFF),
    some (h.toNat + x.toNat > 0xFFFF)⟩

/-- `SPplusE(sp, e)` (42_alu16.md R200): the sum, and the flags of the low-byte addition of the raw `e`. -/
def spPlusE (sp : Word) (e : Byte) : Word × Bool × Bool :=
  (sp + sext16 e, decide ((sp &&& 0x000F).toNat + lowNibble e > 0x0F),
    decide ((sp &&& 0x00FF).toNat + e.toNat > 0xFF))

/-! ### Rotates, shifts and bits -/

/-- A one-bit rotate or shift, or SWAP (43_rotate_shift.md R210-R222): the result and the bit that goes to C; `cin` is F.C
before. -/
def rotResult (op : RotOp) (v : Byte) (cin : Bool) : Byte × Bool :=
  match op with
  | .rlc => ((v <<< 1) ||| (if v.getLsbD 7 then 0x01 else 0x00), v.getLsbD 7)
  | .rrc => ((v >>> 1) ||| (if v.getLsbD 0 then 0x80 else 0x00), v.getLsbD 0)
  | .rl => ((v <<< 1) ||| (if cin then 0x01 else 0x00), v.getLsbD 7)
  | .rr => ((v >>> 1) ||| (if cin then 0x80 else 0x00), v.getLsbD 0)
  | .sla => (v <<< 1, v.getLsbD 7)
  | .sra => ((v >>> 1) ||| (v &&& 0x80), v.getLsbD 0)
  | .swap => ((v <<< 4) ||| (v >>> 4), false)
  | .srl => (v >>> 1, v.getLsbD 0)

/-- The flags of a CB rotate or shift (43_rotate_shift.md R215-R222): Z from the result, N 0, H 0, C the bit. -/
def rotFlags (r : Byte × Bool) : FlagUpdate := ⟨some (r.1 == 0), some false, some false, some r.2⟩

/-- The flags of an accumulator rotate (43_rotate_shift.md R210-R213): as the CB form, but Z 0. -/
def accRotFlags (r : Byte × Bool) : FlagUpdate := ⟨some false, some false, some false, some r.2⟩

/-- The flags of BIT b (44_bit.md R230): Z the complement of the bit, N 0, H 1, C unchanged. -/
def bitFlags (v : Byte) (b : BitVec 3) : FlagUpdate := ⟨some (!v.getLsbD b.toNat), some false, some true, none⟩

/-- `v & ~(1 << b)` (44_bit.md R231). -/
def resetBit (v : Byte) (b : BitVec 3) : Byte := v &&& ~~~((1 : Byte) <<< b.toNat)

/-- `v | (1 << b)` (44_bit.md R232). -/
def setBit (v : Byte) (b : BitVec 3) : Byte := v ||| ((1 : Byte) <<< b.toNat)

end Sys2Proof.Machine
end

