-- ==== Sys2Proof/Machine/Alu16.lean ====
section
/-! DEFINITION. 16-bit arithmetic (42_alu16.md R200-R204): the shared operations of the family, then one meaning per
instruction. -/

namespace Sys2Proof.Machine

/-- ADD HL,rr (R201). -/
def addHlPair (s : State) (p : Pair) : Result :=
  let h := hlAddress s
  finish (withFlags (setPair s .hl (h + pair s p)) (addHlFlags h (pair s p))) 1

/-- INC rr and DEC rr (R202, R203): no flag is written. -/
def stepPair (s : State) (p : Pair) (delta : Word) : Result := finish (setPair s p (pair s p + delta)) 1

/-- ADD SP,e (R204). -/
def addSpE (s : State) (e : Byte) : Result :=
  let (v, h, c) := spPlusE s.sp e
  finish (withFlags (setSp s v) ⟨some false, some false, some h, some c⟩) 2

/-! ### Meanings, in the order of the rules -/

/-- R201: ADD HL,BC. -/
def execAddHlBc (s : State) : Result := addHlPair s .bc

/-- R201: ADD HL,DE. -/
def execAddHlDe (s : State) : Result := addHlPair s .de

/-- R201: ADD HL,HL. -/
def execAddHlHl (s : State) : Result := addHlPair s .hl

/-- R201: ADD HL,SP. -/
def execAddHlSp (s : State) : Result := addHlPair s .sp

/-- R202: INC BC. -/
def execIncBc (s : State) : Result := stepPair s .bc 1

/-- R202: INC DE. -/
def execIncDe (s : State) : Result := stepPair s .de 1

/-- R202: INC HL. -/
def execIncHl (s : State) : Result := stepPair s .hl 1

/-- R202: INC SP. -/
def execIncSp (s : State) : Result := stepPair s .sp 1

/-- R203: DEC BC. -/
def execDecBc (s : State) : Result := stepPair s .bc (-1)

/-- R203: DEC DE. -/
def execDecDe (s : State) : Result := stepPair s .de (-1)

/-- R203: DEC HL. -/
def execDecHl (s : State) : Result := stepPair s .hl (-1)

/-- R203: DEC SP. -/
def execDecSp (s : State) : Result := stepPair s .sp (-1)

/-- R204: ADD SP,e. -/
def execAddSpE (e : Byte) (s : State) : Result := addSpE s e

end Sys2Proof.Machine
end

