-- ==== Sys2Proof/Machine/Alu8.lean ====
section
/-! DEFINITION. 8-bit arithmetic, logic and flag operations (41_alu8.md R170-R187): the shared operations of the family,
then one meaning per instruction. -/

namespace Sys2Proof.Machine

/-- The effect of an 8-bit ALU operation on its source value (R171-R178): A (not for CP), the flags, PC. -/
def aluOn (s : State) (op : AluOp) (x : Byte) (length : Word) : Result :=
  let r := aluResult op s.a x (flagOf s.f .c)
  let s' := withFlags s (aluFlags op s.a x (flagOf s.f .c))
  match op with
  | .cp => finish s' length
  | _ => finish (setReg8 s' .a r) length

/-- Source form (a), a register (R170). -/
def aluReg (s : State) (op : AluOp) (src : Reg8) : Result := aluOn s op (reg8 s src) 1

/-- Source form (b), the memory byte at HL (R170). -/
def aluInd (s : State) (op : AluOp) : Result := readThen none s (hlAddress s) fun x => aluOn s op x 1

/-- Source form (c), an immediate (R170). -/
def aluImm (s : State) (op : AluOp) (n : Byte) : Result := aluOn s op n 2

/-- INC r (R179). -/
def incReg (s : State) (r : Reg8) : Result :=
  finish (withFlags (setReg8 s r (reg8 s r + 1)) (incFlags (reg8 s r))) 1

/-- DEC r (R181). -/
def decReg (s : State) (r : Reg8) : Result :=
  finish (withFlags (setReg8 s r (reg8 s r - 1)) (decFlags (reg8 s r))) 1

/-- INC (HL) (R180): a read, then a write of the same address. -/
def incInd (s : State) : Result :=
  readThen none s (hlAddress s) fun v =>
    writeThen none s (hlAddress s) (v + 1) fun s' => finish (withFlags s' (incFlags v)) 1

/-- DEC (HL) (R182). -/
def decInd (s : State) : Result :=
  readThen none s (hlAddress s) fun v =>
    writeThen none s (hlAddress s) (v - 1) fun s' => finish (withFlags s' (decFlags v)) 1

/-- DAA (R183): N unchanged, H 0. -/
def decimalAdjust (s : State) : Result :=
  let (r, c) := daaResult s.a (flagOf s.f .n) (flagOf s.f .h) (flagOf s.f .c)
  finish (withFlags (setReg8 s .a r) ⟨some (r == 0), none, some false, some c⟩) 1

/-- CPL (R184): Z and C unchanged. -/
def complementA (s : State) : Result :=
  finish (withFlags (setReg8 s .a (~~~s.a)) ⟨none, some true, some true, none⟩) 1

/-- SCF (R185): Z unchanged. -/
def setCarry (s : State) : Result := finish (withFlags s ⟨none, some false, some false, some true⟩) 1

/-- CCF (R186): Z unchanged. -/
def complementCarry (s : State) : Result :=
  finish (withFlags s ⟨none, some false, some false, some (!flagOf s.f .c)⟩) 1

/-! ### Meanings, in the order of the rules -/

/-- R171: ADD A,B. -/
def execAddAB (s : State) : Result := aluReg s .add .b

/-- R171: ADD A,C. -/
def execAddAC (s : State) : Result := aluReg s .add .c

/-- R171: ADD A,D. -/
def execAddAD (s : State) : Result := aluReg s .add .d

/-- R171: ADD A,E. -/
def execAddAE (s : State) : Result := aluReg s .add .e

/-- R171: ADD A,H. -/
def execAddAH (s : State) : Result := aluReg s .add .h

/-- R171: ADD A,L. -/
def execAddAL (s : State) : Result := aluReg s .add .l

/-- R171: ADD A,(HL). -/
def execAddAIndHl (s : State) : Result := aluInd s .add

/-- R171: ADD A,A. -/
def execAddAA (s : State) : Result := aluReg s .add .a

/-- R171: ADD A,n. -/
def execAddAN (n : Byte) (s : State) : Result := aluImm s .add n

/-- R172: ADC A,B. -/
def execAdcAB (s : State) : Result := aluReg s .adc .b

/-- R172: ADC A,C. -/
def execAdcAC (s : State) : Result := aluReg s .adc .c

/-- R172: ADC A,D. -/
def execAdcAD (s : State) : Result := aluReg s .adc .d

/-- R172: ADC A,E. -/
def execAdcAE (s : State) : Result := aluReg s .adc .e

/-- R172: ADC A,H. -/
def execAdcAH (s : State) : Result := aluReg s .adc .h

/-- R172: ADC A,L. -/
def execAdcAL (s : State) : Result := aluReg s .adc .l

/-- R172: ADC A,(HL). -/
def execAdcAIndHl (s : State) : Result := aluInd s .adc

/-- R172: ADC A,A. -/
def execAdcAA (s : State) : Result := aluReg s .adc .a

/-- R172: ADC A,n. -/
def execAdcAN (n : Byte) (s : State) : Result := aluImm s .adc n

/-- R173: SUB A,B. -/
def execSubAB (s : State) : Result := aluReg s .sub .b

/-- R173: SUB A,C. -/
def execSubAC (s : State) : Result := aluReg s .sub .c

/-- R173: SUB A,D. -/
def execSubAD (s : State) : Result := aluReg s .sub .d

/-- R173: SUB A,E. -/
def execSubAE (s : State) : Result := aluReg s .sub .e

/-- R173: SUB A,H. -/
def execSubAH (s : State) : Result := aluReg s .sub .h

/-- R173: SUB A,L. -/
def execSubAL (s : State) : Result := aluReg s .sub .l

/-- R173: SUB A,(HL). -/
def execSubAIndHl (s : State) : Result := aluInd s .sub

/-- R173: SUB A,A. -/
def execSubAA (s : State) : Result := aluReg s .sub .a

/-- R173: SUB A,n. -/
def execSubAN (n : Byte) (s : State) : Result := aluImm s .sub n

/-- R174: SBC A,B. -/
def execSbcAB (s : State) : Result := aluReg s .sbc .b

/-- R174: SBC A,C. -/
def execSbcAC (s : State) : Result := aluReg s .sbc .c

/-- R174: SBC A,D. -/
def execSbcAD (s : State) : Result := aluReg s .sbc .d

/-- R174: SBC A,E. -/
def execSbcAE (s : State) : Result := aluReg s .sbc .e

/-- R174: SBC A,H. -/
def execSbcAH (s : State) : Result := aluReg s .sbc .h

/-- R174: SBC A,L. -/
def execSbcAL (s : State) : Result := aluReg s .sbc .l

/-- R174: SBC A,(HL). -/
def execSbcAIndHl (s : State) : Result := aluInd s .sbc

/-- R174: SBC A,A. -/
def execSbcAA (s : State) : Result := aluReg s .sbc .a

/-- R174: SBC A,n. -/
def execSbcAN (n : Byte) (s : State) : Result := aluImm s .sbc n

/-- R175: AND A,B. -/
def execAndAB (s : State) : Result := aluReg s .and .b

/-- R175: AND A,C. -/
def execAndAC (s : State) : Result := aluReg s .and .c

/-- R175: AND A,D. -/
def execAndAD (s : State) : Result := aluReg s .and .d

/-- R175: AND A,E. -/
def execAndAE (s : State) : Result := aluReg s .and .e

/-- R175: AND A,H. -/
def execAndAH (s : State) : Result := aluReg s .and .h

/-- R175: AND A,L. -/
def execAndAL (s : State) : Result := aluReg s .and .l

/-- R175: AND A,(HL). -/
def execAndAIndHl (s : State) : Result := aluInd s .and

/-- R175: AND A,A. -/
def execAndAA (s : State) : Result := aluReg s .and .a

/-- R175: AND A,n. -/
def execAndAN (n : Byte) (s : State) : Result := aluImm s .and n

/-- R176: XOR A,B. -/
def execXorAB (s : State) : Result := aluReg s .xor .b

/-- R176: XOR A,C. -/
def execXorAC (s : State) : Result := aluReg s .xor .c

/-- R176: XOR A,D. -/
def execXorAD (s : State) : Result := aluReg s .xor .d

/-- R176: XOR A,E. -/
def execXorAE (s : State) : Result := aluReg s .xor .e

/-- R176: XOR A,H. -/
def execXorAH (s : State) : Result := aluReg s .xor .h

/-- R176: XOR A,L. -/
def execXorAL (s : State) : Result := aluReg s .xor .l

/-- R176: XOR A,(HL). -/
def execXorAIndHl (s : State) : Result := aluInd s .xor

/-- R176: XOR A,A. -/
def execXorAA (s : State) : Result := aluReg s .xor .a

/-- R176: XOR A,n. -/
def execXorAN (n : Byte) (s : State) : Result := aluImm s .xor n

/-- R177: OR A,B. -/
def execOrAB (s : State) : Result := aluReg s .or .b

/-- R177: OR A,C. -/
def execOrAC (s : State) : Result := aluReg s .or .c

/-- R177: OR A,D. -/
def execOrAD (s : State) : Result := aluReg s .or .d

/-- R177: OR A,E. -/
def execOrAE (s : State) : Result := aluReg s .or .e

/-- R177: OR A,H. -/
def execOrAH (s : State) : Result := aluReg s .or .h

/-- R177: OR A,L. -/
def execOrAL (s : State) : Result := aluReg s .or .l

/-- R177: OR A,(HL). -/
def execOrAIndHl (s : State) : Result := aluInd s .or

/-- R177: OR A,A. -/
def execOrAA (s : State) : Result := aluReg s .or .a

/-- R177: OR A,n. -/
def execOrAN (n : Byte) (s : State) : Result := aluImm s .or n

/-- R178: CP A,B. -/
def execCpAB (s : State) : Result := aluReg s .cp .b

/-- R178: CP A,C. -/
def execCpAC (s : State) : Result := aluReg s .cp .c

/-- R178: CP A,D. -/
def execCpAD (s : State) : Result := aluReg s .cp .d

/-- R178: CP A,E. -/
def execCpAE (s : State) : Result := aluReg s .cp .e

/-- R178: CP A,H. -/
def execCpAH (s : State) : Result := aluReg s .cp .h

/-- R178: CP A,L. -/
def execCpAL (s : State) : Result := aluReg s .cp .l

/-- R178: CP A,(HL). -/
def execCpAIndHl (s : State) : Result := aluInd s .cp

/-- R178: CP A,A. -/
def execCpAA (s : State) : Result := aluReg s .cp .a

/-- R178: CP A,n. -/
def execCpAN (n : Byte) (s : State) : Result := aluImm s .cp n

/-- R179: INC B. -/
def execIncB (s : State) : Result := incReg s .b

/-- R179: INC C. -/
def execIncC (s : State) : Result := incReg s .c

/-- R179: INC D. -/
def execIncD (s : State) : Result := incReg s .d

/-- R179: INC E. -/
def execIncE (s : State) : Result := incReg s .e

/-- R179: INC H. -/
def execIncH (s : State) : Result := incReg s .h

/-- R179: INC L. -/
def execIncL (s : State) : Result := incReg s .l

/-- R179: INC A. -/
def execIncA (s : State) : Result := incReg s .a

/-- R180: INC (HL). -/
def execIncIndHl (s : State) : Result := incInd s

/-- R181: DEC B. -/
def execDecB (s : State) : Result := decReg s .b

/-- R181: DEC C. -/
def execDecC (s : State) : Result := decReg s .c

/-- R181: DEC D. -/
def execDecD (s : State) : Result := decReg s .d

/-- R181: DEC E. -/
def execDecE (s : State) : Result := decReg s .e

/-- R181: DEC H. -/
def execDecH (s : State) : Result := decReg s .h

/-- R181: DEC L. -/
def execDecL (s : State) : Result := decReg s .l

/-- R181: DEC A. -/
def execDecA (s : State) : Result := decReg s .a

/-- R182: DEC (HL). -/
def execDecIndHl (s : State) : Result := decInd s

/-- R183: DAA. -/
def execDaa (s : State) : Result := decimalAdjust s

/-- R184: CPL. -/
def execCpl (s : State) : Result := complementA s

/-- R185: SCF. -/
def execScf (s : State) : Result := setCarry s

/-- R186: CCF. -/
def execCcf (s : State) : Result := complementCarry s

end Sys2Proof.Machine
end

