-- ==== Sys2Proof/Machine/Control.lean ====
section
/-! DEFINITION. Control transfer (45_control_flow.md R240-R251): the shared operations of the family, then one meaning per
instruction. -/

namespace Sys2Proof.Machine

/-- `PC <- target` as the whole effect (R240, R242). -/
def jump (s : State) (target : Word) : Result := .next (setPc s target)

/-- JP cc,nn (R241). -/
def jumpIf (s : State) (cc : Cond) (nn : Word) : Result := if condHolds s cc then jump s nn else finish s 3

/-- The target of a relative jump (R243): from the address after the two-byte instruction, wrapping. -/
def relativeTarget (s : State) (e : Byte) : Word := s.pc + 2 + sext16 e

/-- JR e (R243). -/
def jumpRelative (s : State) (e : Byte) : Result := jump s (relativeTarget s e)

/-- JR cc,e (R244). -/
def jumpRelativeIf (s : State) (cc : Cond) (e : Byte) : Result :=
  if condHolds s cc then jumpRelative s e else finish s 2

/-- CALL nn and RST t (R245, R250): push the address after the instruction, then jump. -/
def call (s : State) (target : Word) (length : Word) : Result := push16 s (s.pc + length) fun s' => jump s' target

/-- CALL cc,nn (R246): not taken, no stack access is made. -/
def callIf (s : State) (cc : Cond) (nn : Word) : Result := if condHolds s cc then call s nn 3 else finish s 3

/-- RET (R247). -/
def ret (s : State) : Result := pop16 s fun s' v => jump s' v

/-- RET cc (R248): not taken, no stack access is made. -/
def retIf (s : State) (cc : Cond) : Result := if condHolds s cc then ret s else finish s 1

/-- RETI (R249): RET, then `IME <- true` at once; a pop that faults leaves IME. It returns from no entry, since none is
ever made (60_exceptions.md R314). -/
def retEnable (s : State) : Result := pop16 s fun s' v => jump (setIme s' true) v

/-! ### Meanings, in the order of the rules -/

/-- R240: JP nn. -/
def execJpNn (nn : Word) (s : State) : Result := jump s nn

/-- R241: JP NZ,nn. -/
def execJpNzNn (nn : Word) (s : State) : Result := jumpIf s .nz nn

/-- R241: JP Z,nn. -/
def execJpZNn (nn : Word) (s : State) : Result := jumpIf s .z nn

/-- R241: JP NC,nn. -/
def execJpNcNn (nn : Word) (s : State) : Result := jumpIf s .nc nn

/-- R241: JP C,nn. -/
def execJpCNn (nn : Word) (s : State) : Result := jumpIf s .c nn

/-- R242: JP HL. -/
def execJpHl (s : State) : Result := jump s (hlAddress s)

/-- R243: JR e. -/
def execJrE (e : Byte) (s : State) : Result := jumpRelative s e

/-- R244: JR NZ,e. -/
def execJrNzE (e : Byte) (s : State) : Result := jumpRelativeIf s .nz e

/-- R244: JR Z,e. -/
def execJrZE (e : Byte) (s : State) : Result := jumpRelativeIf s .z e

/-- R244: JR NC,e. -/
def execJrNcE (e : Byte) (s : State) : Result := jumpRelativeIf s .nc e

/-- R244: JR C,e. -/
def execJrCE (e : Byte) (s : State) : Result := jumpRelativeIf s .c e

/-- R245: CALL nn. -/
def execCallNn (nn : Word) (s : State) : Result := call s nn 3

/-- R246: CALL NZ,nn. -/
def execCallNzNn (nn : Word) (s : State) : Result := callIf s .nz nn

/-- R246: CALL Z,nn. -/
def execCallZNn (nn : Word) (s : State) : Result := callIf s .z nn

/-- R246: CALL NC,nn. -/
def execCallNcNn (nn : Word) (s : State) : Result := callIf s .nc nn

/-- R246: CALL C,nn. -/
def execCallCNn (nn : Word) (s : State) : Result := callIf s .c nn

/-- R247: RET. -/
def execRet (s : State) : Result := ret s

/-- R248: RET NZ. -/
def execRetNz (s : State) : Result := retIf s .nz

/-- R248: RET Z. -/
def execRetZ (s : State) : Result := retIf s .z

/-- R248: RET NC. -/
def execRetNc (s : State) : Result := retIf s .nc

/-- R248: RET C. -/
def execRetC (s : State) : Result := retIf s .c

/-- R249: RETI. -/
def execReti (s : State) : Result := retEnable s

/-- R250: RST 0x00. -/
def execRst00 (s : State) : Result := call s 0x00 1

/-- R250: RST 0x08. -/
def execRst08 (s : State) : Result := call s 0x08 1

/-- R250: RST 0x10. -/
def execRst10 (s : State) : Result := call s 0x10 1

/-- R250: RST 0x18. -/
def execRst18 (s : State) : Result := call s 0x18 1

/-- R250: RST 0x20. -/
def execRst20 (s : State) : Result := call s 0x20 1

/-- R250: RST 0x28. -/
def execRst28 (s : State) : Result := call s 0x28 1

/-- R250: RST 0x30. -/
def execRst30 (s : State) : Result := call s 0x30 1

/-- R250: RST 0x38. -/
def execRst38 (s : State) : Result := call s 0x38 1

end Sys2Proof.Machine
end

