-- ==== Sys2Proof/Machine/Loads.lean ====
section
/-! DEFINITION. Loads, stores and stack transfers (40_loads.md R130-R155): the shared operations of the family, then one
meaning per instruction. -/

namespace Sys2Proof.Machine

/-- LD r,r' (R130). -/
def ldRegReg (s : State) (dst src : Reg8) : Result := finish (setReg8 s dst (reg8 s src)) 1

/-- LD r,n (R131). -/
def ldRegImm (s : State) (dst : Reg8) (n : Byte) : Result := finish (setReg8 s dst n) 2

/-- LD r,(HL) (R132): the address is HL before the write. -/
def ldRegInd (s : State) (dst : Reg8) : Result :=
  readThen none s (hlAddress s) fun v => finish (setReg8 s dst v) 1

/-- A store of one byte as the whole effect (R133, R134, R137, R138, R140, R142, R144). -/
def storeThenFinish (s : State) (address : Word) (v : Byte) (length : Word) : Result :=
  writeThen none s address v fun s' => finish s' length

/-- LD (HL),r (R133). -/
def ldIndReg (s : State) (src : Reg8) : Result := storeThenFinish s (hlAddress s) (reg8 s src) 1

/-- A load of A as the whole effect (R135, R136, R139, R141, R143). -/
def loadAThenFinish (s : State) (address : Word) (length : Word) : Result :=
  readThen none s address fun v => finish (setReg8 s .a v) length

/-- LD (HL+),A and LD (HL-),A (R145, R147): HL is stepped after the store, so a fault leaves it. -/
def storeStep (s : State) (delta : Word) : Result :=
  writeThen none s (hlAddress s) s.a fun s' => finish (setPair s' .hl (hlAddress s + delta)) 1

/-- LD A,(HL+) and LD A,(HL-) (R146, R148). -/
def loadStep (s : State) (delta : Word) : Result :=
  readThen none s (hlAddress s) fun v => finish (setPair (setReg8 s .a v) .hl (hlAddress s + delta)) 1

/-- LD rr,nn (R149). -/
def ldPairImm (s : State) (p : Pair) (nn : Word) : Result := finish (setPair s p nn) 3

/-- LD (nn),SP (R150): low byte at nn, then high byte at nn + 1. -/
def storeSp (s : State) (nn : Word) : Result :=
  writeThen none s nn (loByte s.sp) fun s1 =>
    writeThen none s1 (nn + 1) (hiByte s.sp) fun s2 => finish s2 3

/-- LD SP,HL (R151). -/
def ldSpHl (s : State) : Result := finish (setSp s (hlAddress s)) 1

/-- LD HL,SP+e (R152). -/
def ldHlSpE (s : State) (e : Byte) : Result :=
  let (v, h, c) := spPlusE s.sp e
  finish (withFlags (setPair s .hl v) ⟨some false, some false, some h, some c⟩) 2

/-- PUSH qq (R153). -/
def pushPair (s : State) (q : StackPair) : Result := push16 s (stackPair s q) fun s' => finish s' 1

/-- POP qq (R154, R155). -/
def popPair (s : State) (q : StackPair) : Result := pop16 s fun s' v => finish (setStackPair s' q v) 1

/-! ### Meanings, in the order of the rules -/

/-- R130: LD B,B. -/
def execLdBB (s : State) : Result := ldRegReg s .b .b

/-- R130: LD B,C. -/
def execLdBC (s : State) : Result := ldRegReg s .b .c

/-- R130: LD B,D. -/
def execLdBD (s : State) : Result := ldRegReg s .b .d

/-- R130: LD B,E. -/
def execLdBE (s : State) : Result := ldRegReg s .b .e

/-- R130: LD B,H. -/
def execLdBH (s : State) : Result := ldRegReg s .b .h

/-- R130: LD B,L. -/
def execLdBL (s : State) : Result := ldRegReg s .b .l

/-- R130: LD B,A. -/
def execLdBA (s : State) : Result := ldRegReg s .b .a

/-- R130: LD C,B. -/
def execLdCB (s : State) : Result := ldRegReg s .c .b

/-- R130: LD C,C. -/
def execLdCC (s : State) : Result := ldRegReg s .c .c

/-- R130: LD C,D. -/
def execLdCD (s : State) : Result := ldRegReg s .c .d

/-- R130: LD C,E. -/
def execLdCE (s : State) : Result := ldRegReg s .c .e

/-- R130: LD C,H. -/
def execLdCH (s : State) : Result := ldRegReg s .c .h

/-- R130: LD C,L. -/
def execLdCL (s : State) : Result := ldRegReg s .c .l

/-- R130: LD C,A. -/
def execLdCA (s : State) : Result := ldRegReg s .c .a

/-- R130: LD D,B. -/
def execLdDB (s : State) : Result := ldRegReg s .d .b

/-- R130: LD D,C. -/
def execLdDC (s : State) : Result := ldRegReg s .d .c

/-- R130: LD D,D. -/
def execLdDD (s : State) : Result := ldRegReg s .d .d

/-- R130: LD D,E. -/
def execLdDE (s : State) : Result := ldRegReg s .d .e

/-- R130: LD D,H. -/
def execLdDH (s : State) : Result := ldRegReg s .d .h

/-- R130: LD D,L. -/
def execLdDL (s : State) : Result := ldRegReg s .d .l

/-- R130: LD D,A. -/
def execLdDA (s : State) : Result := ldRegReg s .d .a

/-- R130: LD E,B. -/
def execLdEB (s : State) : Result := ldRegReg s .e .b

/-- R130: LD E,C. -/
def execLdEC (s : State) : Result := ldRegReg s .e .c

/-- R130: LD E,D. -/
def execLdED (s : State) : Result := ldRegReg s .e .d

/-- R130: LD E,E. -/
def execLdEE (s : State) : Result := ldRegReg s .e .e

/-- R130: LD E,H. -/
def execLdEH (s : State) : Result := ldRegReg s .e .h

/-- R130: LD E,L. -/
def execLdEL (s : State) : Result := ldRegReg s .e .l

/-- R130: LD E,A. -/
def execLdEA (s : State) : Result := ldRegReg s .e .a

/-- R130: LD H,B. -/
def execLdHB (s : State) : Result := ldRegReg s .h .b

/-- R130: LD H,C. -/
def execLdHC (s : State) : Result := ldRegReg s .h .c

/-- R130: LD H,D. -/
def execLdHD (s : State) : Result := ldRegReg s .h .d

/-- R130: LD H,E. -/
def execLdHE (s : State) : Result := ldRegReg s .h .e

/-- R130: LD H,H. -/
def execLdHH (s : State) : Result := ldRegReg s .h .h

/-- R130: LD H,L. -/
def execLdHL (s : State) : Result := ldRegReg s .h .l

/-- R130: LD H,A. -/
def execLdHA (s : State) : Result := ldRegReg s .h .a

/-- R130: LD L,B. -/
def execLdLB (s : State) : Result := ldRegReg s .l .b

/-- R130: LD L,C. -/
def execLdLC (s : State) : Result := ldRegReg s .l .c

/-- R130: LD L,D. -/
def execLdLD (s : State) : Result := ldRegReg s .l .d

/-- R130: LD L,E. -/
def execLdLE (s : State) : Result := ldRegReg s .l .e

/-- R130: LD L,H. -/
def execLdLH (s : State) : Result := ldRegReg s .l .h

/-- R130: LD L,L. -/
def execLdLL (s : State) : Result := ldRegReg s .l .l

/-- R130: LD L,A. -/
def execLdLA (s : State) : Result := ldRegReg s .l .a

/-- R130: LD A,B. -/
def execLdAB (s : State) : Result := ldRegReg s .a .b

/-- R130: LD A,C. -/
def execLdAC (s : State) : Result := ldRegReg s .a .c

/-- R130: LD A,D. -/
def execLdAD (s : State) : Result := ldRegReg s .a .d

/-- R130: LD A,E. -/
def execLdAE (s : State) : Result := ldRegReg s .a .e

/-- R130: LD A,H. -/
def execLdAH (s : State) : Result := ldRegReg s .a .h

/-- R130: LD A,L. -/
def execLdAL (s : State) : Result := ldRegReg s .a .l

/-- R130: LD A,A. -/
def execLdAA (s : State) : Result := ldRegReg s .a .a

/-- R131: LD B,n. -/
def execLdBN (n : Byte) (s : State) : Result := ldRegImm s .b n

/-- R131: LD C,n. -/
def execLdCN (n : Byte) (s : State) : Result := ldRegImm s .c n

/-- R131: LD D,n. -/
def execLdDN (n : Byte) (s : State) : Result := ldRegImm s .d n

/-- R131: LD E,n. -/
def execLdEN (n : Byte) (s : State) : Result := ldRegImm s .e n

/-- R131: LD H,n. -/
def execLdHN (n : Byte) (s : State) : Result := ldRegImm s .h n

/-- R131: LD L,n. -/
def execLdLN (n : Byte) (s : State) : Result := ldRegImm s .l n

/-- R131: LD A,n. -/
def execLdAN (n : Byte) (s : State) : Result := ldRegImm s .a n

/-- R132: LD B,(HL). -/
def execLdBIndHl (s : State) : Result := ldRegInd s .b

/-- R132: LD C,(HL). -/
def execLdCIndHl (s : State) : Result := ldRegInd s .c

/-- R132: LD D,(HL). -/
def execLdDIndHl (s : State) : Result := ldRegInd s .d

/-- R132: LD E,(HL). -/
def execLdEIndHl (s : State) : Result := ldRegInd s .e

/-- R132: LD H,(HL). -/
def execLdHIndHl (s : State) : Result := ldRegInd s .h

/-- R132: LD L,(HL). -/
def execLdLIndHl (s : State) : Result := ldRegInd s .l

/-- R132: LD A,(HL). -/
def execLdAIndHl (s : State) : Result := ldRegInd s .a

/-- R133: LD (HL),B. -/
def execLdIndHlB (s : State) : Result := ldIndReg s .b

/-- R133: LD (HL),C. -/
def execLdIndHlC (s : State) : Result := ldIndReg s .c

/-- R133: LD (HL),D. -/
def execLdIndHlD (s : State) : Result := ldIndReg s .d

/-- R133: LD (HL),E. -/
def execLdIndHlE (s : State) : Result := ldIndReg s .e

/-- R133: LD (HL),H. -/
def execLdIndHlH (s : State) : Result := ldIndReg s .h

/-- R133: LD (HL),L. -/
def execLdIndHlL (s : State) : Result := ldIndReg s .l

/-- R133: LD (HL),A. -/
def execLdIndHlA (s : State) : Result := ldIndReg s .a

/-- R134: LD (HL),n. -/
def execLdIndHlN (n : Byte) (s : State) : Result := storeThenFinish s (hlAddress s) n 2

/-- R135: LD A,(BC). -/
def execLdAIndBc (s : State) : Result := loadAThenFinish s (pair s .bc) 1

/-- R136: LD A,(DE). -/
def execLdAIndDe (s : State) : Result := loadAThenFinish s (pair s .de) 1

/-- R137: LD (BC),A. -/
def execLdIndBcA (s : State) : Result := storeThenFinish s (pair s .bc) s.a 1

/-- R138: LD (DE),A. -/
def execLdIndDeA (s : State) : Result := storeThenFinish s (pair s .de) s.a 1

/-- R139: LD A,(nn). -/
def execLdAIndNn (nn : Word) (s : State) : Result := loadAThenFinish s nn 3

/-- R140: LD (nn),A. -/
def execLdIndNnA (nn : Word) (s : State) : Result := storeThenFinish s nn s.a 3

/-- R141: LDH A,(n). -/
def execLdhAIndN (n : Byte) (s : State) : Result := loadAThenFinish s (highPage n) 2

/-- R142: LDH (n),A. -/
def execLdhIndNA (n : Byte) (s : State) : Result := storeThenFinish s (highPage n) s.a 2

/-- R143: LD A,(C). -/
def execLdAIndC (s : State) : Result := loadAThenFinish s (highPage s.c) 1

/-- R144: LD (C),A. -/
def execLdIndCA (s : State) : Result := storeThenFinish s (highPage s.c) s.a 1

/-- R145: LD (HL+),A. -/
def execLdIndHlIncA (s : State) : Result := storeStep s 1

/-- R146: LD A,(HL+). -/
def execLdAIndHlInc (s : State) : Result := loadStep s 1

/-- R147: LD (HL-),A. -/
def execLdIndHlDecA (s : State) : Result := storeStep s (-1)

/-- R148: LD A,(HL-). -/
def execLdAIndHlDec (s : State) : Result := loadStep s (-1)

/-- R149: LD BC,nn. -/
def execLdBcNn (nn : Word) (s : State) : Result := ldPairImm s .bc nn

/-- R149: LD DE,nn. -/
def execLdDeNn (nn : Word) (s : State) : Result := ldPairImm s .de nn

/-- R149: LD HL,nn. -/
def execLdHlNn (nn : Word) (s : State) : Result := ldPairImm s .hl nn

/-- R149: LD SP,nn. -/
def execLdSpNn (nn : Word) (s : State) : Result := ldPairImm s .sp nn

/-- R150: LD (nn),SP. -/
def execLdIndNnSp (nn : Word) (s : State) : Result := storeSp s nn

/-- R151: LD SP,HL. -/
def execLdSpHl (s : State) : Result := ldSpHl s

/-- R152: LD HL,SP+e. -/
def execLdHlSpE (e : Byte) (s : State) : Result := ldHlSpE s e

/-- R153: PUSH BC. -/
def execPushBc (s : State) : Result := pushPair s .bc

/-- R153: PUSH DE. -/
def execPushDe (s : State) : Result := pushPair s .de

/-- R153: PUSH HL. -/
def execPushHl (s : State) : Result := pushPair s .hl

/-- R153: PUSH AF. -/
def execPushAf (s : State) : Result := pushPair s .af

/-- R154: POP BC. -/
def execPopBc (s : State) : Result := popPair s .bc

/-- R154: POP DE. -/
def execPopDe (s : State) : Result := popPair s .de

/-- R154: POP HL. -/
def execPopHl (s : State) : Result := popPair s .hl

/-- R155: POP AF. -/
def execPopAf (s : State) : Result := popPair s .af

end Sys2Proof.Machine
end

