-- ==== Sys2Proof/Machine/Bit.lean ====
section
/-! DEFINITION. Single-bit test, reset and set (44_bit.md R230-R232): the shared operations of the family, then one meaning
per instruction. -/

namespace Sys2Proof.Machine

/-- BIT b,t (R230): the operand is read and nothing but the flags is written. -/
def bitTarget (s : State) (b : BitVec 3) (t : Target) : Result :=
  readTarget (some (cbCode 1 b t)) s t fun v => finish (withFlags s (bitFlags v b)) 2

/-- RES b,t (R231): the write happens even when the bit is already 0. -/
def resTarget (s : State) (b : BitVec 3) (t : Target) : Result :=
  let sub := some (cbCode 2 b t)
  readTarget sub s t fun v => writeTarget sub s t (resetBit v b) fun s' => finish s' 2

/-- SET b,t (R232): the write happens even when the bit is already 1. -/
def setTarget (s : State) (b : BitVec 3) (t : Target) : Result :=
  let sub := some (cbCode 3 b t)
  readTarget sub s t fun v => writeTarget sub s t (setBit v b) fun s' => finish s' 2

/-! ### Meanings, in the order of the rules -/

/-- R230: BIT 0,B. -/
def execBit0B (s : State) : Result := bitTarget s 0 (.reg .b)

/-- R230: BIT 0,C. -/
def execBit0C (s : State) : Result := bitTarget s 0 (.reg .c)

/-- R230: BIT 0,D. -/
def execBit0D (s : State) : Result := bitTarget s 0 (.reg .d)

/-- R230: BIT 0,E. -/
def execBit0E (s : State) : Result := bitTarget s 0 (.reg .e)

/-- R230: BIT 0,H. -/
def execBit0H (s : State) : Result := bitTarget s 0 (.reg .h)

/-- R230: BIT 0,L. -/
def execBit0L (s : State) : Result := bitTarget s 0 (.reg .l)

/-- R230: BIT 0,(HL). -/
def execBit0IndHl (s : State) : Result := bitTarget s 0 .indHl

/-- R230: BIT 0,A. -/
def execBit0A (s : State) : Result := bitTarget s 0 (.reg .a)

/-- R230: BIT 1,B. -/
def execBit1B (s : State) : Result := bitTarget s 1 (.reg .b)

/-- R230: BIT 1,C. -/
def execBit1C (s : State) : Result := bitTarget s 1 (.reg .c)

/-- R230: BIT 1,D. -/
def execBit1D (s : State) : Result := bitTarget s 1 (.reg .d)

/-- R230: BIT 1,E. -/
def execBit1E (s : State) : Result := bitTarget s 1 (.reg .e)

/-- R230: BIT 1,H. -/
def execBit1H (s : State) : Result := bitTarget s 1 (.reg .h)

/-- R230: BIT 1,L. -/
def execBit1L (s : State) : Result := bitTarget s 1 (.reg .l)

/-- R230: BIT 1,(HL). -/
def execBit1IndHl (s : State) : Result := bitTarget s 1 .indHl

/-- R230: BIT 1,A. -/
def execBit1A (s : State) : Result := bitTarget s 1 (.reg .a)

/-- R230: BIT 2,B. -/
def execBit2B (s : State) : Result := bitTarget s 2 (.reg .b)

/-- R230: BIT 2,C. -/
def execBit2C (s : State) : Result := bitTarget s 2 (.reg .c)

/-- R230: BIT 2,D. -/
def execBit2D (s : State) : Result := bitTarget s 2 (.reg .d)

/-- R230: BIT 2,E. -/
def execBit2E (s : State) : Result := bitTarget s 2 (.reg .e)

/-- R230: BIT 2,H. -/
def execBit2H (s : State) : Result := bitTarget s 2 (.reg .h)

/-- R230: BIT 2,L. -/
def execBit2L (s : State) : Result := bitTarget s 2 (.reg .l)

/-- R230: BIT 2,(HL). -/
def execBit2IndHl (s : State) : Result := bitTarget s 2 .indHl

/-- R230: BIT 2,A. -/
def execBit2A (s : State) : Result := bitTarget s 2 (.reg .a)

/-- R230: BIT 3,B. -/
def execBit3B (s : State) : Result := bitTarget s 3 (.reg .b)

/-- R230: BIT 3,C. -/
def execBit3C (s : State) : Result := bitTarget s 3 (.reg .c)

/-- R230: BIT 3,D. -/
def execBit3D (s : State) : Result := bitTarget s 3 (.reg .d)

/-- R230: BIT 3,E. -/
def execBit3E (s : State) : Result := bitTarget s 3 (.reg .e)

/-- R230: BIT 3,H. -/
def execBit3H (s : State) : Result := bitTarget s 3 (.reg .h)

/-- R230: BIT 3,L. -/
def execBit3L (s : State) : Result := bitTarget s 3 (.reg .l)

/-- R230: BIT 3,(HL). -/
def execBit3IndHl (s : State) : Result := bitTarget s 3 .indHl

/-- R230: BIT 3,A. -/
def execBit3A (s : State) : Result := bitTarget s 3 (.reg .a)

/-- R230: BIT 4,B. -/
def execBit4B (s : State) : Result := bitTarget s 4 (.reg .b)

/-- R230: BIT 4,C. -/
def execBit4C (s : State) : Result := bitTarget s 4 (.reg .c)

/-- R230: BIT 4,D. -/
def execBit4D (s : State) : Result := bitTarget s 4 (.reg .d)

/-- R230: BIT 4,E. -/
def execBit4E (s : State) : Result := bitTarget s 4 (.reg .e)

/-- R230: BIT 4,H. -/
def execBit4H (s : State) : Result := bitTarget s 4 (.reg .h)

/-- R230: BIT 4,L. -/
def execBit4L (s : State) : Result := bitTarget s 4 (.reg .l)

/-- R230: BIT 4,(HL). -/
def execBit4IndHl (s : State) : Result := bitTarget s 4 .indHl

/-- R230: BIT 4,A. -/
def execBit4A (s : State) : Result := bitTarget s 4 (.reg .a)

/-- R230: BIT 5,B. -/
def execBit5B (s : State) : Result := bitTarget s 5 (.reg .b)

/-- R230: BIT 5,C. -/
def execBit5C (s : State) : Result := bitTarget s 5 (.reg .c)

/-- R230: BIT 5,D. -/
def execBit5D (s : State) : Result := bitTarget s 5 (.reg .d)

/-- R230: BIT 5,E. -/
def execBit5E (s : State) : Result := bitTarget s 5 (.reg .e)

/-- R230: BIT 5,H. -/
def execBit5H (s : State) : Result := bitTarget s 5 (.reg .h)

/-- R230: BIT 5,L. -/
def execBit5L (s : State) : Result := bitTarget s 5 (.reg .l)

/-- R230: BIT 5,(HL). -/
def execBit5IndHl (s : State) : Result := bitTarget s 5 .indHl

/-- R230: BIT 5,A. -/
def execBit5A (s : State) : Result := bitTarget s 5 (.reg .a)

/-- R230: BIT 6,B. -/
def execBit6B (s : State) : Result := bitTarget s 6 (.reg .b)

/-- R230: BIT 6,C. -/
def execBit6C (s : State) : Result := bitTarget s 6 (.reg .c)

/-- R230: BIT 6,D. -/
def execBit6D (s : State) : Result := bitTarget s 6 (.reg .d)

/-- R230: BIT 6,E. -/
def execBit6E (s : State) : Result := bitTarget s 6 (.reg .e)

/-- R230: BIT 6,H. -/
def execBit6H (s : State) : Result := bitTarget s 6 (.reg .h)

/-- R230: BIT 6,L. -/
def execBit6L (s : State) : Result := bitTarget s 6 (.reg .l)

/-- R230: BIT 6,(HL). -/
def execBit6IndHl (s : State) : Result := bitTarget s 6 .indHl

/-- R230: BIT 6,A. -/
def execBit6A (s : State) : Result := bitTarget s 6 (.reg .a)

/-- R230: BIT 7,B. -/
def execBit7B (s : State) : Result := bitTarget s 7 (.reg .b)

/-- R230: BIT 7,C. -/
def execBit7C (s : State) : Result := bitTarget s 7 (.reg .c)

/-- R230: BIT 7,D. -/
def execBit7D (s : State) : Result := bitTarget s 7 (.reg .d)

/-- R230: BIT 7,E. -/
def execBit7E (s : State) : Result := bitTarget s 7 (.reg .e)

/-- R230: BIT 7,H. -/
def execBit7H (s : State) : Result := bitTarget s 7 (.reg .h)

/-- R230: BIT 7,L. -/
def execBit7L (s : State) : Result := bitTarget s 7 (.reg .l)

/-- R230: BIT 7,(HL). -/
def execBit7IndHl (s : State) : Result := bitTarget s 7 .indHl

/-- R230: BIT 7,A. -/
def execBit7A (s : State) : Result := bitTarget s 7 (.reg .a)

/-- R231: RES 0,B. -/
def execRes0B (s : State) : Result := resTarget s 0 (.reg .b)

/-- R231: RES 0,C. -/
def execRes0C (s : State) : Result := resTarget s 0 (.reg .c)

/-- R231: RES 0,D. -/
def execRes0D (s : State) : Result := resTarget s 0 (.reg .d)

/-- R231: RES 0,E. -/
def execRes0E (s : State) : Result := resTarget s 0 (.reg .e)

/-- R231: RES 0,H. -/
def execRes0H (s : State) : Result := resTarget s 0 (.reg .h)

/-- R231: RES 0,L. -/
def execRes0L (s : State) : Result := resTarget s 0 (.reg .l)

/-- R231: RES 0,(HL). -/
def execRes0IndHl (s : State) : Result := resTarget s 0 .indHl

/-- R231: RES 0,A. -/
def execRes0A (s : State) : Result := resTarget s 0 (.reg .a)

/-- R231: RES 1,B. -/
def execRes1B (s : State) : Result := resTarget s 1 (.reg .b)

/-- R231: RES 1,C. -/
def execRes1C (s : State) : Result := resTarget s 1 (.reg .c)

/-- R231: RES 1,D. -/
def execRes1D (s : State) : Result := resTarget s 1 (.reg .d)

/-- R231: RES 1,E. -/
def execRes1E (s : State) : Result := resTarget s 1 (.reg .e)

/-- R231: RES 1,H. -/
def execRes1H (s : State) : Result := resTarget s 1 (.reg .h)

/-- R231: RES 1,L. -/
def execRes1L (s : State) : Result := resTarget s 1 (.reg .l)

/-- R231: RES 1,(HL). -/
def execRes1IndHl (s : State) : Result := resTarget s 1 .indHl

/-- R231: RES 1,A. -/
def execRes1A (s : State) : Result := resTarget s 1 (.reg .a)

/-- R231: RES 2,B. -/
def execRes2B (s : State) : Result := resTarget s 2 (.reg .b)

/-- R231: RES 2,C. -/
def execRes2C (s : State) : Result := resTarget s 2 (.reg .c)

/-- R231: RES 2,D. -/
def execRes2D (s : State) : Result := resTarget s 2 (.reg .d)

/-- R231: RES 2,E. -/
def execRes2E (s : State) : Result := resTarget s 2 (.reg .e)

/-- R231: RES 2,H. -/
def execRes2H (s : State) : Result := resTarget s 2 (.reg .h)

/-- R231: RES 2,L. -/
def execRes2L (s : State) : Result := resTarget s 2 (.reg .l)

/-- R231: RES 2,(HL). -/
def execRes2IndHl (s : State) : Result := resTarget s 2 .indHl

/-- R231: RES 2,A. -/
def execRes2A (s : State) : Result := resTarget s 2 (.reg .a)

/-- R231: RES 3,B. -/
def execRes3B (s : State) : Result := resTarget s 3 (.reg .b)

/-- R231: RES 3,C. -/
def execRes3C (s : State) : Result := resTarget s 3 (.reg .c)

/-- R231: RES 3,D. -/
def execRes3D (s : State) : Result := resTarget s 3 (.reg .d)

/-- R231: RES 3,E. -/
def execRes3E (s : State) : Result := resTarget s 3 (.reg .e)

/-- R231: RES 3,H. -/
def execRes3H (s : State) : Result := resTarget s 3 (.reg .h)

/-- R231: RES 3,L. -/
def execRes3L (s : State) : Result := resTarget s 3 (.reg .l)

/-- R231: RES 3,(HL). -/
def execRes3IndHl (s : State) : Result := resTarget s 3 .indHl

/-- R231: RES 3,A. -/
def execRes3A (s : State) : Result := resTarget s 3 (.reg .a)

/-- R231: RES 4,B. -/
def execRes4B (s : State) : Result := resTarget s 4 (.reg .b)

/-- R231: RES 4,C. -/
def execRes4C (s : State) : Result := resTarget s 4 (.reg .c)

/-- R231: RES 4,D. -/
def execRes4D (s : State) : Result := resTarget s 4 (.reg .d)

/-- R231: RES 4,E. -/
def execRes4E (s : State) : Result := resTarget s 4 (.reg .e)

/-- R231: RES 4,H. -/
def execRes4H (s : State) : Result := resTarget s 4 (.reg .h)

/-- R231: RES 4,L. -/
def execRes4L (s : State) : Result := resTarget s 4 (.reg .l)

/-- R231: RES 4,(HL). -/
def execRes4IndHl (s : State) : Result := resTarget s 4 .indHl

/-- R231: RES 4,A. -/
def execRes4A (s : State) : Result := resTarget s 4 (.reg .a)

/-- R231: RES 5,B. -/
def execRes5B (s : State) : Result := resTarget s 5 (.reg .b)

/-- R231: RES 5,C. -/
def execRes5C (s : State) : Result := resTarget s 5 (.reg .c)

/-- R231: RES 5,D. -/
def execRes5D (s : State) : Result := resTarget s 5 (.reg .d)

/-- R231: RES 5,E. -/
def execRes5E (s : State) : Result := resTarget s 5 (.reg .e)

/-- R231: RES 5,H. -/
def execRes5H (s : State) : Result := resTarget s 5 (.reg .h)

/-- R231: RES 5,L. -/
def execRes5L (s : State) : Result := resTarget s 5 (.reg .l)

/-- R231: RES 5,(HL). -/
def execRes5IndHl (s : State) : Result := resTarget s 5 .indHl

/-- R231: RES 5,A. -/
def execRes5A (s : State) : Result := resTarget s 5 (.reg .a)

/-- R231: RES 6,B. -/
def execRes6B (s : State) : Result := resTarget s 6 (.reg .b)

/-- R231: RES 6,C. -/
def execRes6C (s : State) : Result := resTarget s 6 (.reg .c)

/-- R231: RES 6,D. -/
def execRes6D (s : State) : Result := resTarget s 6 (.reg .d)

/-- R231: RES 6,E. -/
def execRes6E (s : State) : Result := resTarget s 6 (.reg .e)

/-- R231: RES 6,H. -/
def execRes6H (s : State) : Result := resTarget s 6 (.reg .h)

/-- R231: RES 6,L. -/
def execRes6L (s : State) : Result := resTarget s 6 (.reg .l)

/-- R231: RES 6,(HL). -/
def execRes6IndHl (s : State) : Result := resTarget s 6 .indHl

/-- R231: RES 6,A. -/
def execRes6A (s : State) : Result := resTarget s 6 (.reg .a)

/-- R231: RES 7,B. -/
def execRes7B (s : State) : Result := resTarget s 7 (.reg .b)

/-- R231: RES 7,C. -/
def execRes7C (s : State) : Result := resTarget s 7 (.reg .c)

/-- R231: RES 7,D. -/
def execRes7D (s : State) : Result := resTarget s 7 (.reg .d)

/-- R231: RES 7,E. -/
def execRes7E (s : State) : Result := resTarget s 7 (.reg .e)

/-- R231: RES 7,H. -/
def execRes7H (s : State) : Result := resTarget s 7 (.reg .h)

/-- R231: RES 7,L. -/
def execRes7L (s : State) : Result := resTarget s 7 (.reg .l)

/-- R231: RES 7,(HL). -/
def execRes7IndHl (s : State) : Result := resTarget s 7 .indHl

/-- R231: RES 7,A. -/
def execRes7A (s : State) : Result := resTarget s 7 (.reg .a)

/-- R232: SET 0,B. -/
def execSet0B (s : State) : Result := setTarget s 0 (.reg .b)

/-- R232: SET 0,C. -/
def execSet0C (s : State) : Result := setTarget s 0 (.reg .c)

/-- R232: SET 0,D. -/
def execSet0D (s : State) : Result := setTarget s 0 (.reg .d)

/-- R232: SET 0,E. -/
def execSet0E (s : State) : Result := setTarget s 0 (.reg .e)

/-- R232: SET 0,H. -/
def execSet0H (s : State) : Result := setTarget s 0 (.reg .h)

/-- R232: SET 0,L. -/
def execSet0L (s : State) : Result := setTarget s 0 (.reg .l)

/-- R232: SET 0,(HL). -/
def execSet0IndHl (s : State) : Result := setTarget s 0 .indHl

/-- R232: SET 0,A. -/
def execSet0A (s : State) : Result := setTarget s 0 (.reg .a)

/-- R232: SET 1,B. -/
def execSet1B (s : State) : Result := setTarget s 1 (.reg .b)

/-- R232: SET 1,C. -/
def execSet1C (s : State) : Result := setTarget s 1 (.reg .c)

/-- R232: SET 1,D. -/
def execSet1D (s : State) : Result := setTarget s 1 (.reg .d)

/-- R232: SET 1,E. -/
def execSet1E (s : State) : Result := setTarget s 1 (.reg .e)

/-- R232: SET 1,H. -/
def execSet1H (s : State) : Result := setTarget s 1 (.reg .h)

/-- R232: SET 1,L. -/
def execSet1L (s : State) : Result := setTarget s 1 (.reg .l)

/-- R232: SET 1,(HL). -/
def execSet1IndHl (s : State) : Result := setTarget s 1 .indHl

/-- R232: SET 1,A. -/
def execSet1A (s : State) : Result := setTarget s 1 (.reg .a)

/-- R232: SET 2,B. -/
def execSet2B (s : State) : Result := setTarget s 2 (.reg .b)

/-- R232: SET 2,C. -/
def execSet2C (s : State) : Result := setTarget s 2 (.reg .c)

/-- R232: SET 2,D. -/
def execSet2D (s : State) : Result := setTarget s 2 (.reg .d)

/-- R232: SET 2,E. -/
def execSet2E (s : State) : Result := setTarget s 2 (.reg .e)

/-- R232: SET 2,H. -/
def execSet2H (s : State) : Result := setTarget s 2 (.reg .h)

/-- R232: SET 2,L. -/
def execSet2L (s : State) : Result := setTarget s 2 (.reg .l)

/-- R232: SET 2,(HL). -/
def execSet2IndHl (s : State) : Result := setTarget s 2 .indHl

/-- R232: SET 2,A. -/
def execSet2A (s : State) : Result := setTarget s 2 (.reg .a)

/-- R232: SET 3,B. -/
def execSet3B (s : State) : Result := setTarget s 3 (.reg .b)

/-- R232: SET 3,C. -/
def execSet3C (s : State) : Result := setTarget s 3 (.reg .c)

/-- R232: SET 3,D. -/
def execSet3D (s : State) : Result := setTarget s 3 (.reg .d)

/-- R232: SET 3,E. -/
def execSet3E (s : State) : Result := setTarget s 3 (.reg .e)

/-- R232: SET 3,H. -/
def execSet3H (s : State) : Result := setTarget s 3 (.reg .h)

/-- R232: SET 3,L. -/
def execSet3L (s : State) : Result := setTarget s 3 (.reg .l)

/-- R232: SET 3,(HL). -/
def execSet3IndHl (s : State) : Result := setTarget s 3 .indHl

/-- R232: SET 3,A. -/
def execSet3A (s : State) : Result := setTarget s 3 (.reg .a)

/-- R232: SET 4,B. -/
def execSet4B (s : State) : Result := setTarget s 4 (.reg .b)

/-- R232: SET 4,C. -/
def execSet4C (s : State) : Result := setTarget s 4 (.reg .c)

/-- R232: SET 4,D. -/
def execSet4D (s : State) : Result := setTarget s 4 (.reg .d)

/-- R232: SET 4,E. -/
def execSet4E (s : State) : Result := setTarget s 4 (.reg .e)

/-- R232: SET 4,H. -/
def execSet4H (s : State) : Result := setTarget s 4 (.reg .h)

/-- R232: SET 4,L. -/
def execSet4L (s : State) : Result := setTarget s 4 (.reg .l)

/-- R232: SET 4,(HL). -/
def execSet4IndHl (s : State) : Result := setTarget s 4 .indHl

/-- R232: SET 4,A. -/
def execSet4A (s : State) : Result := setTarget s 4 (.reg .a)

/-- R232: SET 5,B. -/
def execSet5B (s : State) : Result := setTarget s 5 (.reg .b)

/-- R232: SET 5,C. -/
def execSet5C (s : State) : Result := setTarget s 5 (.reg .c)

/-- R232: SET 5,D. -/
def execSet5D (s : State) : Result := setTarget s 5 (.reg .d)

/-- R232: SET 5,E. -/
def execSet5E (s : State) : Result := setTarget s 5 (.reg .e)

/-- R232: SET 5,H. -/
def execSet5H (s : State) : Result := setTarget s 5 (.reg .h)

/-- R232: SET 5,L. -/
def execSet5L (s : State) : Result := setTarget s 5 (.reg .l)

/-- R232: SET 5,(HL). -/
def execSet5IndHl (s : State) : Result := setTarget s 5 .indHl

/-- R232: SET 5,A. -/
def execSet5A (s : State) : Result := setTarget s 5 (.reg .a)

/-- R232: SET 6,B. -/
def execSet6B (s : State) : Result := setTarget s 6 (.reg .b)

/-- R232: SET 6,C. -/
def execSet6C (s : State) : Result := setTarget s 6 (.reg .c)

/-- R232: SET 6,D. -/
def execSet6D (s : State) : Result := setTarget s 6 (.reg .d)

/-- R232: SET 6,E. -/
def execSet6E (s : State) : Result := setTarget s 6 (.reg .e)

/-- R232: SET 6,H. -/
def execSet6H (s : State) : Result := setTarget s 6 (.reg .h)

/-- R232: SET 6,L. -/
def execSet6L (s : State) : Result := setTarget s 6 (.reg .l)

/-- R232: SET 6,(HL). -/
def execSet6IndHl (s : State) : Result := setTarget s 6 .indHl

/-- R232: SET 6,A. -/
def execSet6A (s : State) : Result := setTarget s 6 (.reg .a)

/-- R232: SET 7,B. -/
def execSet7B (s : State) : Result := setTarget s 7 (.reg .b)

/-- R232: SET 7,C. -/
def execSet7C (s : State) : Result := setTarget s 7 (.reg .c)

/-- R232: SET 7,D. -/
def execSet7D (s : State) : Result := setTarget s 7 (.reg .d)

/-- R232: SET 7,E. -/
def execSet7E (s : State) : Result := setTarget s 7 (.reg .e)

/-- R232: SET 7,H. -/
def execSet7H (s : State) : Result := setTarget s 7 (.reg .h)

/-- R232: SET 7,L. -/
def execSet7L (s : State) : Result := setTarget s 7 (.reg .l)

/-- R232: SET 7,(HL). -/
def execSet7IndHl (s : State) : Result := setTarget s 7 .indHl

/-- R232: SET 7,A. -/
def execSet7A (s : State) : Result := setTarget s 7 (.reg .a)

end Sys2Proof.Machine
end

