-- ==== Sys2Proof/Machine/Rotate.lean ====
section
/-! DEFINITION. Rotates and shifts (43_rotate_shift.md R210-R222): the shared operations of the family, then one meaning per
instruction. -/

namespace Sys2Proof.Machine

/-- The accumulator rotates (R210-R213): the CB operation on A with Z always cleared. -/
def rotateA (s : State) (op : RotOp) : Result :=
  let r := rotResult op s.a (flagOf s.f .c)
  finish (withFlags (setReg8 s .a r.1) (accRotFlags r)) 1

/-- A CB rotate or shift of its target (R214-R222): read, write back, flags, PC + 2. -/
def rotateTarget (s : State) (op : RotOp) (t : Target) : Result :=
  let sub := some (cbCode 0 op.code t)
  readTarget sub s t fun v =>
    let r := rotResult op v (flagOf s.f .c)
    writeTarget sub s t r.1 fun s' => finish (withFlags s' (rotFlags r)) 2

/-! ### Meanings, in the order of the rules -/

/-- R210: RLCA. -/
def execRlca (s : State) : Result := rotateA s .rlc

/-- R211: RRCA. -/
def execRrca (s : State) : Result := rotateA s .rrc

/-- R212: RLA. -/
def execRla (s : State) : Result := rotateA s .rl

/-- R213: RRA. -/
def execRra (s : State) : Result := rotateA s .rr

/-- R215: RLC B. -/
def execRlcB (s : State) : Result := rotateTarget s .rlc (.reg .b)

/-- R215: RLC C. -/
def execRlcC (s : State) : Result := rotateTarget s .rlc (.reg .c)

/-- R215: RLC D. -/
def execRlcD (s : State) : Result := rotateTarget s .rlc (.reg .d)

/-- R215: RLC E. -/
def execRlcE (s : State) : Result := rotateTarget s .rlc (.reg .e)

/-- R215: RLC H. -/
def execRlcH (s : State) : Result := rotateTarget s .rlc (.reg .h)

/-- R215: RLC L. -/
def execRlcL (s : State) : Result := rotateTarget s .rlc (.reg .l)

/-- R215: RLC (HL). -/
def execRlcIndHl (s : State) : Result := rotateTarget s .rlc .indHl

/-- R215: RLC A. -/
def execRlcA (s : State) : Result := rotateTarget s .rlc (.reg .a)

/-- R216: RRC B. -/
def execRrcB (s : State) : Result := rotateTarget s .rrc (.reg .b)

/-- R216: RRC C. -/
def execRrcC (s : State) : Result := rotateTarget s .rrc (.reg .c)

/-- R216: RRC D. -/
def execRrcD (s : State) : Result := rotateTarget s .rrc (.reg .d)

/-- R216: RRC E. -/
def execRrcE (s : State) : Result := rotateTarget s .rrc (.reg .e)

/-- R216: RRC H. -/
def execRrcH (s : State) : Result := rotateTarget s .rrc (.reg .h)

/-- R216: RRC L. -/
def execRrcL (s : State) : Result := rotateTarget s .rrc (.reg .l)

/-- R216: RRC (HL). -/
def execRrcIndHl (s : State) : Result := rotateTarget s .rrc .indHl

/-- R216: RRC A. -/
def execRrcA (s : State) : Result := rotateTarget s .rrc (.reg .a)

/-- R217: RL B. -/
def execRlB (s : State) : Result := rotateTarget s .rl (.reg .b)

/-- R217: RL C. -/
def execRlC (s : State) : Result := rotateTarget s .rl (.reg .c)

/-- R217: RL D. -/
def execRlD (s : State) : Result := rotateTarget s .rl (.reg .d)

/-- R217: RL E. -/
def execRlE (s : State) : Result := rotateTarget s .rl (.reg .e)

/-- R217: RL H. -/
def execRlH (s : State) : Result := rotateTarget s .rl (.reg .h)

/-- R217: RL L. -/
def execRlL (s : State) : Result := rotateTarget s .rl (.reg .l)

/-- R217: RL (HL). -/
def execRlIndHl (s : State) : Result := rotateTarget s .rl .indHl

/-- R217: RL A. -/
def execRlA (s : State) : Result := rotateTarget s .rl (.reg .a)

/-- R218: RR B. -/
def execRrB (s : State) : Result := rotateTarget s .rr (.reg .b)

/-- R218: RR C. -/
def execRrC (s : State) : Result := rotateTarget s .rr (.reg .c)

/-- R218: RR D. -/
def execRrD (s : State) : Result := rotateTarget s .rr (.reg .d)

/-- R218: RR E. -/
def execRrE (s : State) : Result := rotateTarget s .rr (.reg .e)

/-- R218: RR H. -/
def execRrH (s : State) : Result := rotateTarget s .rr (.reg .h)

/-- R218: RR L. -/
def execRrL (s : State) : Result := rotateTarget s .rr (.reg .l)

/-- R218: RR (HL). -/
def execRrIndHl (s : State) : Result := rotateTarget s .rr .indHl

/-- R218: RR A. -/
def execRrA (s : State) : Result := rotateTarget s .rr (.reg .a)

/-- R219: SLA B. -/
def execSlaB (s : State) : Result := rotateTarget s .sla (.reg .b)

/-- R219: SLA C. -/
def execSlaC (s : State) : Result := rotateTarget s .sla (.reg .c)

/-- R219: SLA D. -/
def execSlaD (s : State) : Result := rotateTarget s .sla (.reg .d)

/-- R219: SLA E. -/
def execSlaE (s : State) : Result := rotateTarget s .sla (.reg .e)

/-- R219: SLA H. -/
def execSlaH (s : State) : Result := rotateTarget s .sla (.reg .h)

/-- R219: SLA L. -/
def execSlaL (s : State) : Result := rotateTarget s .sla (.reg .l)

/-- R219: SLA (HL). -/
def execSlaIndHl (s : State) : Result := rotateTarget s .sla .indHl

/-- R219: SLA A. -/
def execSlaA (s : State) : Result := rotateTarget s .sla (.reg .a)

/-- R220: SRA B. -/
def execSraB (s : State) : Result := rotateTarget s .sra (.reg .b)

/-- R220: SRA C. -/
def execSraC (s : State) : Result := rotateTarget s .sra (.reg .c)

/-- R220: SRA D. -/
def execSraD (s : State) : Result := rotateTarget s .sra (.reg .d)

/-- R220: SRA E. -/
def execSraE (s : State) : Result := rotateTarget s .sra (.reg .e)

/-- R220: SRA H. -/
def execSraH (s : State) : Result := rotateTarget s .sra (.reg .h)

/-- R220: SRA L. -/
def execSraL (s : State) : Result := rotateTarget s .sra (.reg .l)

/-- R220: SRA (HL). -/
def execSraIndHl (s : State) : Result := rotateTarget s .sra .indHl

/-- R220: SRA A. -/
def execSraA (s : State) : Result := rotateTarget s .sra (.reg .a)

/-- R221: SWAP B. -/
def execSwapB (s : State) : Result := rotateTarget s .swap (.reg .b)

/-- R221: SWAP C. -/
def execSwapC (s : State) : Result := rotateTarget s .swap (.reg .c)

/-- R221: SWAP D. -/
def execSwapD (s : State) : Result := rotateTarget s .swap (.reg .d)

/-- R221: SWAP E. -/
def execSwapE (s : State) : Result := rotateTarget s .swap (.reg .e)

/-- R221: SWAP H. -/
def execSwapH (s : State) : Result := rotateTarget s .swap (.reg .h)

/-- R221: SWAP L. -/
def execSwapL (s : State) : Result := rotateTarget s .swap (.reg .l)

/-- R221: SWAP (HL). -/
def execSwapIndHl (s : State) : Result := rotateTarget s .swap .indHl

/-- R221: SWAP A. -/
def execSwapA (s : State) : Result := rotateTarget s .swap (.reg .a)

/-- R222: SRL B. -/
def execSrlB (s : State) : Result := rotateTarget s .srl (.reg .b)

/-- R222: SRL C. -/
def execSrlC (s : State) : Result := rotateTarget s .srl (.reg .c)

/-- R222: SRL D. -/
def execSrlD (s : State) : Result := rotateTarget s .srl (.reg .d)

/-- R222: SRL E. -/
def execSrlE (s : State) : Result := rotateTarget s .srl (.reg .e)

/-- R222: SRL H. -/
def execSrlH (s : State) : Result := rotateTarget s .srl (.reg .h)

/-- R222: SRL L. -/
def execSrlL (s : State) : Result := rotateTarget s .srl (.reg .l)

/-- R222: SRL (HL). -/
def execSrlIndHl (s : State) : Result := rotateTarget s .srl .indHl

/-- R222: SRL A. -/
def execSrlA (s : State) : Result := rotateTarget s .srl (.reg .a)

end Sys2Proof.Machine
end

