-- ==== Sys2Proof/Machine/System.lean ====
section
/-! DEFINITION. System and miscellaneous control (46_system.md R260-R266): the shared operations of the family, then one
meaning per instruction. -/

namespace Sys2Proof.Machine

/-- STOP (R261): PC + 2, then Stopped; the second byte is not read. -/
def stop (s : State) : Result := .next (setRun (advance s 2) .stopped)

/-- HALT (R262): refused under refuse_when_pending with an interrupt pending, whatever IME is; else PC + 1, then Halted. -/
def halt (s : State) : Result :=
  if s.config.interruptPolicy == .refuseWhenPending && pendingInterrupts s != 0 then
    .refused .haltWithInterruptPending
  else .next (setRun (advance s 1) .halted)

/-- DI and EI (R263, R264): IME is written at once. -/
def writeIme (s : State) (on : Bool) : Result := finish (setIme s on) 1

/-- The rule that a sub-opcode selects (R265): the group by bits 7:6, the operation or bit by 5:3, the operand by 2:0. -/
def runCb (s : State) (sub : Byte) : Result :=
  let y := sub.extractLsb' 3 3
  let t := targetOf (sub.extractLsb' 0 3)
  pick4 (sub.extractLsb' 6 2) (rotateTarget s (rotOf y) t) (bitTarget s y t) (resTarget s y t) (setTarget s y t)

/-- PREFIX CB (R265): read the sub-opcode at PC + 1 and run the rule it selects. -/
def dispatchPrefix (s : State) : Result := readThen none s (s.pc + 1) fun sub => runCb s sub

/-- An illegal opcode (R266): only the fault record changes. -/
def illegal (s : State) (op : Byte) : Result := .fault (takeFault (some op) none s (illegalOpcodeFault s))

/-! ### Meanings, in the order of the rules -/

/-- R260: NOP. -/
def execNop (s : State) : Result := finish s 1

/-- R261: STOP. -/
def execStop (s : State) : Result := stop s

/-- R262: HALT. -/
def execHalt (s : State) : Result := halt s

/-- R263: DI. -/
def execDi (s : State) : Result := writeIme s false

/-- R264: EI. -/
def execEi (s : State) : Result := writeIme s true

/-- R265: PREFIX CB. -/
def execPrefixCb (s : State) : Result := dispatchPrefix s

/-- R266: Illegal opcode. -/
def execIllegal (op : Byte) (s : State) : Result := illegal s op

end Sys2Proof.Machine
end

