-- ==== Sys2Proof/Machine/Fetch.lean ====
section
/-! DEFINITION. Which states have a step (00_scope.md R13; 60_exceptions.md R311), fetching and decoding the next instruction
(30_encoding.md R119-R122), and placing an instruction where the next fetch reads it. -/

namespace Sys2Proof.Machine

/-- Why a state has no step, if it has none: its fault record (10_state.md R32), Halted or Stopped (00_scope.md R13), or the
interrupt check made before the fetch (60_exceptions.md R309, R311). The named stops are log 8. -/
def noStep (s : State) : Option Result :=
  match s.fault, s.run with
  | some r, _ => some (.fault (.noStepAfterFault r))
  | none, .halted => some (.fault .noStepHalted)
  | none, .stopped => some (.fault .noStepStopped)
  | none, .running => if interruptWouldBeTaken s then some (.refused .interruptWouldBeTaken) else none

/-- The instruction of a fetched opcode (30_encoding.md R120): its operand bytes are read after the opcode in ascending
address order, each of which can fault. STOP's second byte is not read (46_system.md R261). A prefix whose sub-opcode cannot
be read is left to the prefix handler, whose own read raises the fault (R265, log 10). -/
def fetchOperands (s : State) (op : Byte) : Except BusFault Instr :=
  match baseRow op with
  | .plain i => .ok i
  | .imm8 mk =>
    match busRead s (s.pc + 1) with
    | .ok n => .ok (mk n)
    | .error e => .error e
  | .imm16 mk =>
    match busRead s (s.pc + 1) with
    | .ok lo =>
      match busRead s (s.pc + 2) with
      | .ok hi => .ok (mk (joinBytes hi lo))
      | .error e => .error e
    | .error e => .error e
  | .stop => .ok .stop
  | .cb =>
    match busRead s (s.pc + 1) with
    | .ok sub => .ok (decodeCb sub)
    | .error _ => .ok .prefixCb

/-- Fetch (30_encoding.md R119, R122): the opcode through the ordinary read decode, `current_op`, then the operand bytes.
A faulting opcode fetch leaves `current_op` and records no opcode (60_exceptions.md R307, R308). -/
def fetch (s : State) : Except Fault (Instr × State) :=
  match busRead s s.pc with
  | .error e => .error (takeFault none none s e)
  | .ok op =>
    let s' := setCurrentOp s op
    match fetchOperands s' op with
    | .ok i => .ok (i, s')
    | .error e => .error (takeFault (some op) none s' e)

/-! ### Placing an instruction (log 12) -/

/-- Put a byte behind a bus address, ROM included, as loading an image would; nothing where no byte can be read back. -/
def putByte (s : State) (address : Word) (v : Byte) : State :=
  match place s address with
  | .ok (.rom n) => { s with rom := Memory.set s.rom n v }
  | .ok p => writePlace s p v
  | .error _ => s

/-- Whether a byte put behind an address is read back from it. -/
def holdsByte (s : State) (address : Word) : Bool :=
  match place s address with
  | .ok .cramDisabled => false
  | .ok _ => true
  | .error _ => false

/-- Where an instruction of up to three bytes is placed: at PC, or at the start of work RAM when PC's bytes hold none. -/
def placeAddress (s : State) : Word :=
  if holdsByte s s.pc && holdsByte s (s.pc + 1) && holdsByte s (s.pc + 2) then s.pc else 0xC000

/-- The state whose next step fetches: Running, no fault record, and IME clear where the interrupt check would refuse. -/
def readyToFetch (s : State) : State :=
  { s with run := .running, fault := none, ime := s.ime && !interruptWouldBeTaken s }

/-- Place the bytes of an instruction, zeros up to three, where the next step fetches. -/
def placeInstruction (s : State) (bytes : List Byte) : State :=
  let s := readyToFetch s
  let at' := placeAddress s
  let byte := fun k => bytes.getD k 0
  setPc (putByte (putByte (putByte s at' (byte 0)) (at' + 1) (byte 1)) (at' + 2) (byte 2)) at'

end Sys2Proof.Machine
end

