-- ==== Sys2Proof/Machine/Step.lean ====
section
/-! DEFINITION. One step (00_scope.md R5, R13; 30_encoding.md R119-R122): the checks that need no fetch, the fetch, the
instruction's meaning. -/

namespace Sys2Proof.Machine

/-- One step: a state without a step answers why; otherwise the next instruction is fetched and executed. -/
def step (s : State) : Host.Outcome State Fault Refusal :=
  match noStep s with
  | some outcome => outcome
  | none =>
    match fetch s with
    | .ok (i, s') => exec i s'
    | .error f => .fault f

/-- The state in which the next step fetches the instruction of a row of spec/opcode_table.json: it stands for loading a
program from outside the machine (log 12). -/
def State.withFetchWord (s : State) (nbits w : Nat) : State :=
  placeInstruction s (tableBytesWithOperands nbits w)

end Sys2Proof.Machine
end

