-- ==== Sys2Proof/Machine/Cartridge.lean ====
section
/-! DEFINITION. The cartridge header and the construction of the block (20_memory.md R85-R92; 70_reset_and_hazards.md
R330-R338; 60_exceptions.md R321). -/

namespace Sys2Proof.Machine

/-- A cartridge image: a byte buffer of a length, its bytes as cells (an unlisted offset holds zero). -/
structure Image where
  length : Nat
  bytes  : Memory
  deriving DecidableEq, Repr

/-- The cells of a byte list from an offset on. -/
def cellsFrom (offset : Nat) : List Byte → Memory
  | [] => []
  | v :: rest => (offset, v) :: cellsFrom (offset + 1) rest

/-- The image of a byte buffer. -/
def Image.ofBytes (buffer : List Byte) : Image := { length := buffer.length, bytes := cellsFrom 0 buffer }

/-- A store of `size` bytes from any cells, in canonical form: the first cell listed for an offset wins, as `Memory.get`
reads it, and offsets past the store are dropped. -/
def Memory.restrict : Memory → Nat → Memory
  | [], _ => []
  | (k, v) :: m, size => if k < size then Memory.set (Memory.restrict m size) k v else Memory.restrict m size

/-! ### The header (R85-R88, R92) -/

/-- Banking-controller code (R87). -/
def controllerKindOf (code : Byte) : ControllerKind :=
  match code.toNat with
  | 0x00 => .noMbc
  | 0x01 => .mbc1
  | 0x02 => .mbc1Ram
  | 0x03 => .mbc1RamBattery
  | 0x05 => .mbc2
  | 0x06 => .mbc2Battery
  | 0x08 => .romRam
  | 0x09 => .romRamBattery
  | 0x0B => .mmm01
  | 0x0C => .mmm01Ram
  | 0x0D => .mmm01RamBattery
  | 0x0F => .mbc3TimerBattery
  | 0x10 => .mbc3TimerRamBattery
  | 0x11 => .mbc3
  | 0x12 => .mbc3Ram
  | 0x13 => .mbc3RamBattery
  | 0x19 => .mbc5
  | 0x1A => .mbc5Ram
  | 0x1B => .mbc5RamBattery
  | 0x1C => .mbc5Rumble
  | 0x1D => .mbc5RumbleRam
  | 0x1E => .mbc5RumbleRamBattery
  | 0x20 => .mbc6
  | 0x22 => .mbc7SensorRumbleRamBattery
  | 0xFC => .pocketCamera
  | 0xFD => .bandaiTama5
  | 0xFE => .huC3
  | 0xFF => .huC1RamBattery
  | _ => .unknown code

/-- ROM size code (R88). -/
def romSizeOf (code : Byte) : RomSize :=
  match code.toNat with
  | 0x00 => .bytes 0x8000
  | 0x01 => .bytes 0x10000
  | 0x02 => .bytes 0x20000
  | 0x03 => .bytes 0x40000
  | 0x04 => .bytes 0x80000
  | 0x05 => .bytes 0x100000
  | 0x06 => .bytes 0x200000
  | 0x07 => .bytes 0x400000
  | 0x08 => .bytes 0x800000
  | 0x52 => .bytes (72 * Config.romBankSize)
  | 0x53 => .bytes (80 * Config.romBankSize)
  | 0x54 => .bytes (96 * Config.romBankSize)
  | _ => .unknownMax

/-- RAM size code (R86). -/
def ramSpecOf (code : Byte) : RamSpec :=
  match code.toNat with
  | 0x00 => .absent
  | 0x01 => .banks 1 0x800
  | 0x02 => .banks 1 0x2000
  | 0x03 => .banks 4 0x2000
  | 0x04 => .banks 16 0x2000
  | 0x05 => .banks 8 0x2000
  | _ => .unknown

/-- Destination code (R92). -/
def destinationOf (code : Byte) : Destination := if code = 0x00 then .japanese else .nonJapanese

/-- The title (R92): the fifteen bytes at 0x134, up to the first zero byte. -/
def titleOf (image : Image) : List Byte :=
  ((List.range 15).map fun k => Memory.get image.bytes (0x134 + k)).takeWhile fun v => v != 0

/-- `parse(bytes)` (R85): read from the image buffer, not through the bus; total. -/
def parseHeader (image : Image) : Header :=
  { title := titleOf image,
    kind := controllerKindOf (Memory.get image.bytes 0x147),
    romSize := romSizeOf (Memory.get image.bytes 0x148),
    ramSpec := ramSpecOf (Memory.get image.bytes 0x149),
    destination := destinationOf (Memory.get image.bytes 0x14A) }

/-- `ram_bank_count` (R86): an unknown code is no RAM. -/
def RamSpec.bankCount : RamSpec → Nat
  | .banks count _ => count
  | .absent => 0
  | .unknown => 0

/-- `ram_bank_size` (R86). -/
def RamSpec.bankSize : RamSpec → Nat
  | .banks _ size => size
  | .absent => 0
  | .unknown => 0

/-- What UNSUPPORTED_CONTROLLER makes of a recognised family without behaviour (R89); none means construction refuses. -/
def unsupportedController : UnsupportedController → Option Controller
  | .refuse => none
  | .noBanking => some .noBanking
  | .banked => some .banked

/-- Controller selection (R89). -/
def selectController (kind : ControllerKind) (unsupported : UnsupportedController) : Option Controller :=
  match kind with
  | .mbc1 | .mbc1Ram | .mbc1RamBattery => some .banked
  | .noMbc | .romRam | .romRamBattery | .unknown _ => some .noBanking
  | .mbc2 | .mbc2Battery | .mmm01 | .mmm01Ram | .mmm01RamBattery | .mbc3TimerBattery | .mbc3TimerRamBattery | .mbc3
  | .mbc3Ram | .mbc3RamBattery | .mbc5 | .mbc5Ram | .mbc5RamBattery | .mbc5Rumble | .mbc5RumbleRam
  | .mbc5RumbleRamBattery | .mbc6 | .mbc7SensorRumbleRamBattery | .pocketCamera | .bandaiTama5 | .huC3
  | .huC1RamBattery => unsupportedController unsupported

/-! ### Construction (70_reset_and_hazards.md R330-R338) -/

/-- Parameter INITIAL_REGS (R332). -/
structure InitialRegs where
  a : Byte
  f : Byte
  b : Byte
  c : Byte
  d : Byte
  e : Byte
  h : Byte
  l : Byte
  deriving DecidableEq, Repr

/-- Launch argument INITIAL_MEMORY (R337): any bytes. -/
structure InitialMemory where
  cram : Memory
  vram : Memory
  wram : Memory
  oam  : Memory
  io   : Memory
  hram : Memory
  ie   : Byte
  deriving DecidableEq, Repr

/-- The parameters of 00_scope.md R6 that construction takes. -/
structure Params where
  initialRegs           : InitialRegs
  initialSp             : Word
  initialMemory         : InitialMemory
  disabledRamRead       : Byte
  interruptPolicy       : InterruptPolicy
  unsupportedController : UnsupportedController
  deriving DecidableEq, Repr

/-- The parameters of State.reset: the register values R332 and R334 suggest (log 1), memory all zero (log 2) and the
defaults of 00_scope.md R6 (logs 5, 6, 7). -/
def Params.default : Params :=
  { initialRegs := { a := 0x01, f := 0xB0, b := 0x00, c := 0x13, d := 0x00, e := 0xD8, h := 0x01, l := 0x4D },
    initialSp := 0xFFFE,
    initialMemory := { cram := [], vram := [], wram := [], oam := [], io := [], hram := [], ie := 0x00 },
    disabledRamRead := Config.defaultDisabledRamRead,
    interruptPolicy := .ignore,
    unsupportedController := .refuse }

/-- The image of State.reset (log 3): the shortest that construction accepts, every byte zero. -/
def Image.blank : Image := { length := 0x8000, bytes := [] }

/-- Why construction refuses an image (R331). -/
inductive ConstructRefusal where
  /-- Shorter than 0x8000 bytes, or not a multiple of 0x4000. -/
  | badLength (length : Nat)
  /-- A recognised controller without behaviour, under UNSUPPORTED_CONTROLLER = refuse. -/
  | unsupportedController (kind : ControllerKind)
  deriving DecidableEq, Repr

/-- The configuration of an image with a selected controller (R331; 20_memory.md R86, R90, R91). -/
def configOf (image : Image) (params : Params) (controller : Controller) : Config :=
  let header := parseHeader image
  { controller := controller,
    romBankCount := image.length / Config.romBankSize,
    ramBankCount := RamSpec.bankCount header.ramSpec,
    ramBankSize := RamSpec.bankSize header.ramSpec,
    header := header,
    disabledRamRead := params.disabledRamRead,
    interruptPolicy := params.interruptPolicy }

/-- The initial state of a configuration (R332-R337): F's low nibble zero (R332), and under NoBanking RAM enabled exactly
when there is some (R336; 20_memory.md R69). -/
def initialState (image : Image) (params : Params) (config : Config) : State :=
  let regs := params.initialRegs
  let memory := params.initialMemory
  { a := regs.a, f := regs.f &&& 0xF0, b := regs.b, c := regs.c, d := regs.d, e := regs.e, h := regs.h, l := regs.l,
    sp := params.initialSp, pc := 0x0100, ime := false, currentOp := 0x00, run := .running, fault := none,
    ramEnabled := config.controller == .noBanking && decide (config.ramBankCount > 0),
    activeRomBank := 1, activeRamBank := 0, bankingMode := 0,
    rom := Memory.restrict image.bytes image.length,
    cram := Memory.restrict memory.cram (config.ramBankCount * config.ramBankSize),
    vram := Memory.restrict memory.vram 0x2000,
    wram := Memory.restrict memory.wram 0x2000,
    oam := Memory.restrict memory.oam 0xA0,
    io := Memory.restrict memory.io 0x80,
    hram := Memory.restrict memory.hram 0x7F,
    ie := memory.ie,
    config := config }

/-- Construction, in the order of R331: refuse a bad length, parse the header, select the controller or refuse, allocate the
stores, set the initial state. -/
def construct (image : Image) (params : Params) : Except ConstructRefusal State :=
  if image.length < 0x8000 ∨ image.length % Config.romBankSize ≠ 0 then .error (.badLength image.length)
  else
    match selectController (parseHeader image).kind params.unsupportedController with
    | none => .error (.unsupportedController (parseHeader image).kind)
    | some controller => .ok (initialState image params (configOf image params controller))

end Sys2Proof.Machine
end

