-- ==== Sys2Proof/Machine/Driver.lean ====
section
/-! DEFINITION. What the driver may do between steps besides constructing the block and calling step (00_scope.md R14, R15):
set PC before the first step, and the bulk read of the video collaborator. -/

namespace Sys2Proof.Machine

/-- Set PC before the first step (R14; 70_reset_and_hazards.md R333). -/
def hostSetPc (s : State) (pc : Word) : State := setPc s pc

/-- The bytes of `count` addresses from `start` on, ascending; a fault is the whole call's (R15). -/
def readFrom (s : State) (start : Nat) : Nat → Except BusFault (List Byte)
  | 0 => .ok []
  | count + 1 =>
    match busRead s (BitVec.ofNat 16 start) with
    | .error e => .error e
    | .ok v =>
      match readFrom s (start + 1) count with
      | .error e => .error e
      | .ok rest => .ok (v :: rest)

/-- `read_range(start, end)` (R15): the bytes of the addresses `a` with `start <= a < end`; no state changes, and no fault
record is written (60_exceptions.md R302). There is no address past 0xFFFF (20_memory.md R50). -/
def readRange (s : State) (start stop : Nat) : Except BusFault (List Byte) :=
  readFrom s start (min stop 0x10000 - start)

end Sys2Proof.Machine
end

