-- ==== Sys2Proof/Safety.lean ====
section
/-! DEFINITION. The terms the claims use: the invariant of every constructed machine, and what it means for an instruction to
leave registers, flags, control state and memory unchanged. -/

namespace Sys2Proof.Machine

/-- A store is canonical and lies in its size (10_state.md R35). -/
structure Memory.Good (m : Memory) (size : Nat) : Prop where
  canonical : Memory.wf m
  inside : Memory.below m size

/-- What holds of every machine that construction yields, and stays true. -/
structure State.Inv (s : State) : Prop where
  /-- F's low nibble reads as zero (10_state.md R23). -/
  flagsLow : s.f &&& 0x0F = 0
  /-- `active_rom_bank` is in 1..31 (10_state.md R33). -/
  romBank : s.activeRomBank ≠ 0
  /-- `rom_bank_count >= 2` (20_memory.md R52, R90). -/
  twoBanks : 2 ≤ s.config.romBankCount
  /-- The fixed bank state of NoBanking (20_memory.md R69). -/
  noBanking : s.config.controller = .noBanking →
    s.ramEnabled = decide (0 < s.config.ramBankCount) ∧ s.activeRomBank = 1 ∧ s.activeRamBank = 0 ∧ s.bankingMode = 0
  rom : Memory.Good s.rom (s.config.romBankCount * Config.romBankSize)
  cram : Memory.Good s.cram (s.config.ramBankCount * s.config.ramBankSize)
  vram : Memory.Good s.vram 0x2000
  wram : Memory.Good s.wram 0x2000
  oam : Memory.Good s.oam 0xA0
  io : Memory.Good s.io 0x80
  hram : Memory.Good s.hram 0x7F

/-! ### Frames -/

/-- Every 8-bit register but those listed is unchanged (F is treated by `flagsSameBut`). -/
def regsSameBut (written : List Reg8) (s t : State) : Prop := ∀ r, r ∉ written → reg8 t r = reg8 s r

/-- Every flag but those listed is unchanged, and so is F's low nibble. -/
def flagsSameBut (written : List Flag) (s t : State) : Prop :=
  (∀ g, g ∉ written → flagOf t.f g = flagOf s.f g) ∧ t.f &&& 0x0F = s.f &&& 0x0F

/-- The bank state is unchanged (10_state.md R33). -/
def bankSame (s t : State) : Prop :=
  t.ramEnabled = s.ramEnabled ∧ t.activeRomBank = s.activeRomBank ∧ t.activeRamBank = s.activeRamBank ∧
    t.bankingMode = s.bankingMode

/-- Everything beside the registers, SP, PC, IME, the run state and memory is unchanged: `current_op`, the fault record and
the configuration. -/
def restSame (s t : State) : Prop := t.currentOp = s.currentOp ∧ t.fault = s.fault ∧ t.config = s.config

/-- IME and the run state are unchanged, and the rest (`restSame`). -/
def controlSame (s t : State) : Prop := t.ime = s.ime ∧ t.run = s.run ∧ restSame s t

/-- The only bytes stored to are those at the listed addresses. Every byte of every store (ROM and the banks out of view
included) that is not behind a listed data address is unchanged; an address below 0x8000 is a control write and stores no
byte. If no listed address is a control address, the bank state is unchanged and every bus address that leads elsewhere
than the listed ones reads as before. -/
def storesOnlyAt (addresses : List Word) (s t : State) : Prop :=
  (∀ p, (∀ a ∈ addresses, 0x8000 ≤ a.toNat → place s a ≠ .ok p) → readPlace t p = readPlace s p) ∧
  ((∀ a ∈ addresses, 0x8000 ≤ a.toNat) →
    bankSame s t ∧ ∀ b, (∀ a ∈ addresses, place s b ≠ place s a) → busRead t b = busRead s b)

/-- Nothing is stored: the bank state and every byte read as before. -/
def storesNothing (s t : State) : Prop := storesOnlyAt [] s t

/-- The next state of an outcome, if it has one. -/
def nextOf : Host.Outcome State Fault Refusal → Option State
  | .next t => some t
  | .fault _ => none
  | .refused _ => none

/-- The state a fault leaves, where the fault is one of the spec's four (60_exceptions.md R306). -/
def leftBy : Fault → Option State
  | .illegalOpcode left => some left
  | .unusableAddress left => some left
  | .romBankOutOfRange left => some left
  | .ramBankOutOfRange left => some left
  | .noStepAfterFault _ => none
  | .noStepHalted => none
  | .noStepStopped => none

/-- What an outcome ends in: a next state with the first property, or a fault of the spec that leaves a state with the second
(60_exceptions.md R306, R308). A refusal and a state without a step leave none. -/
def endsIn (P Q : State → Prop) (o : Host.Outcome State Fault Refusal) : Prop :=
  match o with
  | .next t => P t
  | .fault f => ∀ left, leftBy f = some left → Q left
  | .refused _ => True

/-- A property of the state an outcome leaves, whichever it is. -/
def leaves (P : State → Prop) (o : Host.Outcome State Fault Refusal) : Prop := endsIn P P o

end Sys2Proof.Machine
end

