-- ==== Sys2Proof/Certificates/Slice0/Obligations.lean ====
section
/-! DEFINITION. The statements. `Sys2Proof.Claims` holds the spec's own tables and formulas, written over natural numbers and
integers and apart from the model's definitions, in which the statements are made. -/

namespace Sys2Proof.Claims

open Sys2Proof.Machine

/-! ### Encoding (30_encoding.md) -/

/-- Field `r`, registers (R102). -/
def regCode : Reg8 → Byte
  | .b => 0
  | .c => 1
  | .d => 2
  | .e => 3
  | .h => 4
  | .l => 5
  | .a => 7

/-- Field `r` (R102). -/
def targetCode : Target → Byte
  | .reg r => regCode r
  | .indHl => 6

/-- Field `pp` in its place, bits 5:4 (R103). -/
def pairCode : Pair → Byte
  | .bc => 0x00
  | .de => 0x10
  | .hl => 0x20
  | .sp => 0x30

/-- Field `qq` in its place, bits 5:4 (R104). -/
def stackPairCode : StackPair → Byte
  | .bc => 0x00
  | .de => 0x10
  | .hl => 0x20
  | .af => 0x30

/-- Field `cc` in its place, bits 4:3 (R105). -/
def condCode : Cond → Byte
  | .nz => 0x00
  | .z => 0x08
  | .nc => 0x10
  | .c => 0x18

/-- Field `ooo` of the CB rotates and shifts in its place, bits 5:3 (R106). -/
def rotCode : RotOp → Byte
  | .rlc => 0x00
  | .rrc => 0x08
  | .rl => 0x10
  | .rr => 0x18
  | .sla => 0x20
  | .sra => 0x28
  | .swap => 0x30
  | .srl => 0x38

/-- A three-bit field in its place at bits 5:3. -/
def bitCode (b : BitVec 3) : Byte := BitVec.ofNat 8 (8 * b.toNat)

/-- The bytes are the instruction, whatever follows them. -/
def encodedAs (bytes : List Byte) (i : Instr) : Prop := ∀ rest, decode (bytes ++ rest) = .ok (i, rest)

/-- The base opcodes of two-byte instructions but STOP and the prefix (R113). -/
def opcodesWithOneOperand : List Byte :=
  [0x06, 0x0E, 0x16, 0x1E, 0x26, 0x2E, 0x36, 0x3E, 0x18, 0x20, 0x28, 0x30, 0x38, 0xC6, 0xCE, 0xD6, 0xDE, 0xE6, 0xEE,
    0xF6, 0xFE, 0xE0, 0xF0, 0xE8, 0xF8]

/-- The base opcodes of three-byte instructions (R113). -/
def opcodesWithTwoOperands : List Byte :=
  [0x01, 0x11, 0x21, 0x31, 0x08, 0xC2, 0xCA, 0xD2, 0xDA, 0xC3, 0xC4, 0xCC, 0xD4, 0xDC, 0xCD, 0xEA, 0xFA]

/-- The length that an opcode byte gives its instruction (R113). -/
def lengthOf (op : Byte) : Nat :=
  if op ∈ opcodesWithTwoOperands then 3
  else if op ∈ opcodesWithOneOperand ∨ op = 0x10 ∨ op = 0xCB then 2
  else 1

/-- The eleven illegal opcodes (R114). -/
def illegalBytes : List Byte := [0xD3, 0xDB, 0xDD, 0xE3, 0xE4, 0xEB, 0xEC, 0xED, 0xF4, 0xFC, 0xFD]

/-! ### Faults of a step -/

/-- The exceptions `bus(PC + 1)` and `bus(PC + 2)` of an opcode with `count` operand bytes: the first that faults ends the
step, with the opcode in `current_op` and in the record (60_exceptions.md R307, R309). -/
def operandFaults (op : Byte) (count : Nat) : Prop :=
  ∀ (s : State) (e : BusFault), noStep s = none → busRead s s.pc = .ok op →
    (1 ≤ count → busRead s (s.pc + 1) = .error e →
      step s = .fault (takeFault (some op) none { s with currentOp := op } e)) ∧
    (2 ≤ count → ∀ v, busRead s (s.pc + 1) = .ok v → busRead s (s.pc + 2) = .error e →
      step s = .fault (takeFault (some op) none { s with currentOp := op } e))

/-- A fault of an instruction's own access: the record names the opcode in `current_op`. -/
def accessFault (sub : Option Byte) (s : State) (e : BusFault) : Host.Outcome State Fault Refusal :=
  .fault (takeFault (some s.currentOp) sub s e)

/-- The outcome with a change made to every state in it. -/
def mapOutcome (f : State → State) : Host.Outcome State Fault Refusal → Host.Outcome State Fault Refusal
  | .next t => .next (f t)
  | .fault (.illegalOpcode t) => .fault (.illegalOpcode (f t))
  | .fault (.unusableAddress t) => .fault (.unusableAddress (f t))
  | .fault (.romBankOutOfRange t) => .fault (.romBankOutOfRange (f t))
  | .fault (.ramBankOutOfRange t) => .fault (.ramBankOutOfRange (f t))
  | .fault (.noStepAfterFault r) => .fault (.noStepAfterFault r)
  | .fault .noStepHalted => .fault .noStepHalted
  | .fault .noStepStopped => .fault .noStepStopped
  | .refused r => .refused r

/-- The state without `current_op` and without the opcode byte that its fault record names. -/
def withoutOpcode (s : State) : State :=
  { s with currentOp := 0, fault := s.fault.map fun record => { record with opcode := none } }

/-- The byte of an access, if it did not fault. -/
def readByte (s : State) (address : Word) : Option Byte :=
  match busRead s address with
  | .ok v => some v
  | .error _ => none

/-! ### Registers and flags -/

/-- `H:L` (10_state.md R21). -/
def hl (s : State) : Word := BitVec.ofNat 16 (s.h.toNat * 256 + s.l.toNat)

/-- `B:C` (10_state.md R21). -/
def bc (s : State) : Word := BitVec.ofNat 16 (s.b.toNat * 256 + s.c.toNat)

/-- `D:E` (10_state.md R21). -/
def de (s : State) : Word := BitVec.ofNat 16 (s.d.toNat * 256 + s.e.toNat)

/-- `A:F` (10_state.md R21). -/
def af (s : State) : Word := BitVec.ofNat 16 (s.a.toNat * 256 + s.f.toNat)

/-- The value of a pair of field `pp`. -/
def pairValue (s : State) : Pair → Word
  | .bc => bc s
  | .de => de s
  | .hl => hl s
  | .sp => s.sp

/-- The value of a pair of field `qq`. -/
def stackPairValue (s : State) : StackPair → Word
  | .bc => bc s
  | .de => de s
  | .hl => hl s
  | .af => af s

/-- `v[15:8]`. -/
def high (v : Word) : Byte := BitVec.ofNat 8 (v.toNat / 256)

/-- `v[7:0]`. -/
def low (v : Word) : Byte := BitVec.ofNat 8 (v.toNat % 256)

/-- The word `hi:lo`. -/
def word (hi lo : Byte) : Word := BitVec.ofNat 16 (hi.toNat * 256 + lo.toNat)

/-- A pair of field `pp` written: exactly its two cells, or SP (10_state.md R22). -/
def writePair (s : State) (p : Pair) (v : Word) : State :=
  match p with
  | .bc => { s with b := high v, c := low v }
  | .de => { s with d := high v, e := low v }
  | .hl => { s with h := high v, l := low v }
  | .sp => { s with sp := v }

/-- A pair of field `qq` written; F's low nibble is zero (10_state.md R22, R23). -/
def writeStackPair (s : State) (q : StackPair) (v : Word) : State :=
  match q with
  | .bc => { s with b := high v, c := low v }
  | .de => { s with d := high v, e := low v }
  | .hl => { s with h := high v, l := low v }
  | .af => { s with a := high v, f := low v &&& 0xF0 }

/-- F with the flags Z, N, H, C given (10_state.md R24), its low nibble as it is. -/
def flagByte (f : Byte) (z n h c : Bool) : Byte :=
  (f &&& 0x0F) ||| (if z then 0x80 else 0x00) ||| (if n then 0x40 else 0x00) ||| (if h then 0x20 else 0x00) |||
    (if c then 0x10 else 0x00)

/-- F.Z (10_state.md R24). -/
def zf (s : State) : Bool := s.f.getLsbD 7

/-- F.N. -/
def nf (s : State) : Bool := s.f.getLsbD 6

/-- F.H. -/
def hf (s : State) : Bool := s.f.getLsbD 5

/-- F.C. -/
def cf (s : State) : Bool := s.f.getLsbD 4

/-- `cond(cc)` (10_state.md R39). -/
def condition (s : State) : Cond → Bool
  | .nz => !zf s
  | .z => zf s
  | .nc => !cf s
  | .c => cf s

/-- `signed8(e)` (00_scope.md R9). -/
def signed8 (e : Byte) : Int := if e.toNat < 0x80 then e.toNat else (e.toNat : Int) - 256

/-! ### The bus (20_memory.md) -/

/-- `rom_bank_read(b, off)` (R52). -/
def romBankRead (s : State) (address : Word) (bank offset : Nat) : Except BusFault Byte :=
  if s.config.romBankCount ≤ bank then
    .error { kind := .romBankOutOfRange, address := address, bankOffset := some (bank, offset) }
  else .ok (Memory.get s.rom (bank * 0x4000 + offset))

/-- `window_bank` (R53). -/
def activeWindow (s : State) : Nat :=
  match s.config.controller with
  | .banked => s.activeRomBank.toNat
  | .noBanking => 1

/-- The RAM bank of R55. -/
def activeRam (s : State) : Nat :=
  match s.config.controller with
  | .banked => s.activeRamBank.toNat
  | .noBanking => 0

/-- The fault of an enabled access past the RAM store (R55, R68). -/
def ramFault (s : State) (address : Word) : BusFault :=
  { kind := .ramBankOutOfRange, address := address, bankOffset := some (activeRam s, address.toNat - 0xA000) }

/-- The fault of the unusable range (R59). -/
def unusableFault (address : Word) : BusFault := { kind := .unusableAddress, address := address, bankOffset := none }

/-! ### Shapes of rules -/

/-- A rule that reads one byte: its effect where the read completes, the fault where it does not. -/
def readsByte (i : Instr) (address : State → Word) (effect : State → Byte → State) : Prop :=
  ∀ s : State,
    (∀ v, busRead s (address s) = .ok v → exec i s = .next (effect s v)) ∧
    (∀ e, busRead s (address s) = .error e → exec i s = accessFault none s e)

/-- A rule that writes one byte: what follows where the write completes, the fault where it does not. -/
def writesByte (i : Instr) (address : State → Word) (value : State → Byte) (after : State → State → State) : Prop :=
  ∀ s : State,
    (∀ t, busWrite s (address s) (value s) = .ok t → exec i s = .next (after s t)) ∧
    (∀ e, busWrite s (address s) (value s) = .error e → exec i s = accessFault none s e)

/-- A rule that writes two bytes in order. -/
def writesTwo (i : Instr) (first : State → Word) (v1 : State → Byte) (second : State → Word) (v2 : State → Byte)
    (after : State → State → State) : Prop :=
  ∀ s : State,
    (∀ t u, busWrite s (first s) (v1 s) = .ok t → busWrite t (second s) (v2 s) = .ok u →
      exec i s = .next (after s u)) ∧
    (∀ e, busWrite s (first s) (v1 s) = .error e → exec i s = accessFault none s e) ∧
    (∀ t e, busWrite s (first s) (v1 s) = .ok t → busWrite t (second s) (v2 s) = .error e →
      exec i s = accessFault none t e)

/-- `Push16(v)` and what follows (20_memory.md R73): the high byte at SP - 1, then the low byte at SP - 2. -/
def pushes (i : Instr) (value : State → Word) (after : State → State → State) : Prop :=
  writesTwo i (fun s => s.sp - 1) (fun s => high (value s)) (fun s => s.sp - 2) (fun s => low (value s))
    fun s u => after s { u with sp := s.sp - 2 }

/-- `Pop16()` and what follows (20_memory.md R73): the low byte at SP, then the high byte at SP + 1. -/
def pops (i : Instr) (after : State → Word → State) : Prop :=
  ∀ s : State,
    (∀ lo hi, busRead s s.sp = .ok lo → busRead s (s.sp + 1) = .ok hi →
      exec i s = .next (after { s with sp := s.sp + 2 } (word hi lo))) ∧
    (∀ e, busRead s s.sp = .error e → exec i s = accessFault none s e) ∧
    (∀ lo e, busRead s s.sp = .ok lo → busRead s (s.sp + 1) = .error e → exec i s = accessFault none s e)

/-- An 8-bit ALU rule in its three source forms (41_alu8.md R170): `row` is the opcode of source B, `immediate` the
opcode of the immediate form; `effect s x L` is the state after the rule for source value `x` and length `L`. -/
def aluRule (op : AluOp) (row immediate : Byte) (effect : State → Byte → Word → State) : Prop :=
  (∀ src, encodedAs [row + regCode src] (.aluReg op src)) ∧
  encodedAs [row + 6] (.aluInd op) ∧
  (∀ n, encodedAs [immediate, n] (.aluImm op n)) ∧
  (∀ src s, exec (.aluReg op src) s = .next (effect s (reg8 s src) 1)) ∧
  readsByte (.aluInd op) hl (fun s x => effect s x 1) ∧
  (∀ n s, exec (.aluImm op n) s = .next (effect s n 2)) ∧
  operandFaults immediate 1

/-- A CB rule that writes its operand (43_rotate_shift.md R214): `sub` is the sub-opcode, `result` the value written, and
`flags` F afterwards, both from the value read. Where the byte at HL can be read it can be written. -/
def cbRule (i : Instr) (sub : Byte) (t : Target) (result flags : State → Byte → Byte) : Prop :=
  encodedAs [0xCB, sub] i ∧
  match t with
  | .reg r =>
    ∀ s, exec i s =
      .next { setReg8 s r (result s (reg8 s r)) with f := flags s (reg8 s r), pc := s.pc + 2 }
  | .indHl =>
    ∀ s,
      (∀ v, busRead s (hl s) = .ok v → ∃ u, busWrite s (hl s) (result s v) = .ok u ∧
        exec i s = .next { u with f := flags s v, pc := s.pc + 2 }) ∧
      (∀ e, busRead s (hl s) = .error e → exec i s = accessFault (some sub) s e)

/-! ### Results (41_alu8.md, 42_alu16.md, 43_rotate_shift.md, 44_bit.md) -/

/-- ADD and ADC with carry-in `c` (R171, R172), over unbounded sums. -/
def addEffect (c : Nat) (s : State) (x : Byte) (length : Word) : State :=
  let sum := s.a.toNat + x.toNat + c
  { s with
    a := BitVec.ofNat 8 sum
    f := flagByte s.f (sum % 256 == 0) false (decide (s.a.toNat % 16 + x.toNat % 16 + c > 15)) (decide (sum > 255))
    pc := s.pc + length }

/-- F after SUB, SBC and CP with borrow-in `c` (R173, R174, R178). -/
def subFlags (c : Nat) (s : State) (x : Byte) : Byte :=
  flagByte s.f (((s.a.toNat : Int) - x.toNat - c) % 256 == 0) true (decide (s.a.toNat % 16 < x.toNat % 16 + c))
    (decide (s.a.toNat < x.toNat + c))

/-- SUB and SBC with borrow-in `c` (R173, R174). -/
def subEffect (c : Nat) (s : State) (x : Byte) (length : Word) : State :=
  { s with a := BitVec.ofInt 8 ((s.a.toNat : Int) - x.toNat - c), f := subFlags c s x, pc := s.pc + length }

/-- AND, XOR and OR (R175-R177): the result, and H as each writes it. -/
def logicEffect (result : Byte → Byte → Byte) (h : Bool) (s : State) (x : Byte) (length : Word) : State :=
  { s with a := result s.a x, f := flagByte s.f (result s.a x == 0) false h false, pc := s.pc + length }

/-- The result and the bit that goes to C of a rotate, shift or swap (R210-R222), as numbers. -/
def rotated (op : RotOp) (v : Byte) (cin : Bool) : Byte × Bool :=
  let n := v.toNat
  let bit7 := n / 128
  let bit0 := n % 2
  match op with
  | .rlc => (BitVec.ofNat 8 (n * 2 + bit7), bit7 == 1)
  | .rrc => (BitVec.ofNat 8 (n / 2 + 128 * bit0), bit0 == 1)
  | .rl => (BitVec.ofNat 8 (n * 2 + cin.toNat), bit7 == 1)
  | .rr => (BitVec.ofNat 8 (n / 2 + 128 * cin.toNat), bit0 == 1)
  | .sla => (BitVec.ofNat 8 (n * 2), bit7 == 1)
  | .sra => (BitVec.ofNat 8 (n / 2 + 128 * bit7), bit0 == 1)
  | .swap => (BitVec.ofNat 8 (n % 16 * 16 + n / 16), false)
  | .srl => (BitVec.ofNat 8 (n / 2), bit0 == 1)

/-- `v & ~(1 << b)`, as a number (R231). -/
def bitCleared (v : Byte) (b : BitVec 3) : Byte :=
  BitVec.ofNat 8 (v.toNat - if v.toNat / 2 ^ b.toNat % 2 = 1 then 2 ^ b.toNat else 0)

/-- `v | (1 << b)`, as a number (R232). -/
def bitSet (v : Byte) (b : BitVec 3) : Byte :=
  BitVec.ofNat 8 (v.toNat + if v.toNat / 2 ^ b.toNat % 2 = 1 then 0 else 2 ^ b.toNat)

/-- The three results of `SPplusE` (R200). -/
def spSum (sp : Word) (e : Byte) : Word := BitVec.ofInt 16 (sp.toNat + signed8 e)

/-- Its H: the carry out of bit 3 of the low bytes, `e` unsigned. -/
def spHalf (sp : Word) (e : Byte) : Bool := decide (sp.toNat % 16 + e.toNat % 16 > 15)

/-- Its C: the carry out of bit 7 of the low bytes, `e` unsigned. -/
def spCarry (sp : Word) (e : Byte) : Bool := decide (sp.toNat % 256 + e.toNat > 255)

/-- DAA (R183): the accumulator afterwards, and C. -/
def decimalAdjusted (a : Nat) (n h c : Bool) : Byte × Bool :=
  if n then (BitVec.ofInt 8 ((a : Int) - (if c then 0x60 else 0) - (if h then 0x06 else 0)), c)
  else
    let high := c || decide (a > 0x99)
    let low := h || decide (a % 16 > 9)
    (BitVec.ofNat 8 (a + (if high then 0x60 else 0) + (if low then 0x06 else 0)), high)

/-- The packed decimal byte of a number below 100. -/
def bcd (n : Nat) : Byte := BitVec.ofNat 8 (n / 10 * 16 + n % 10)

/-! ### Frames -/

/-- The cells of a pair. -/
def cellsOf : Pair → List Reg8
  | .bc => [.b, .c]
  | .de => [.d, .e]
  | .hl => [.h, .l]
  | .sp => []

/-- All four flags. -/
def allFlags : List Flag := [.z, .n, .h, .c]

/-- What a completed instruction leaves: every register but `regs`, every flag but `flags`, SP unless `spToo`, IME, the run
state and the rest; and it stores nothing. -/
def frame (i : Instr) (regs : List Reg8) (flags : List Flag) (spToo : Bool) : Prop :=
  ∀ s t : State, exec i s = .next t →
    regsSameBut regs s t ∧ flagsSameBut flags s t ∧ (spToo = false → t.sp = s.sp) ∧ controlSame s t ∧ storesNothing s t

/-- The same of an instruction that stores to the addresses it computes from the state before it. -/
def frameStoring (i : Instr) (addresses : State → List Word) (regs : List Reg8) (flags : List Flag) (spToo : Bool) : Prop :=
  ∀ s t : State, exec i s = .next t →
    regsSameBut regs s t ∧ flagsSameBut flags s t ∧ (spToo = false → t.sp = s.sp) ∧ controlSame s t ∧
      storesOnlyAt (addresses s) s t

/-! ### The cartridge header (20_memory.md R86-R89) -/

/-- Controller codes (R87). -/
def controllerCodes : List (Byte × ControllerKind) :=
  [(0x00, .noMbc), (0x01, .mbc1), (0x02, .mbc1Ram), (0x03, .mbc1RamBattery), (0x05, .mbc2), (0x06, .mbc2Battery),
    (0x08, .romRam), (0x09, .romRamBattery), (0x0B, .mmm01), (0x0C, .mmm01Ram), (0x0D, .mmm01RamBattery),
    (0x0F, .mbc3TimerBattery), (0x10, .mbc3TimerRamBattery), (0x11, .mbc3), (0x12, .mbc3Ram), (0x13, .mbc3RamBattery),
    (0x19, .mbc5), (0x1A, .mbc5Ram), (0x1B, .mbc5RamBattery), (0x1C, .mbc5Rumble), (0x1D, .mbc5RumbleRam),
    (0x1E, .mbc5RumbleRamBattery), (0x20, .mbc6), (0x22, .mbc7SensorRumbleRamBattery), (0xFC, .pocketCamera),
    (0xFD, .bandaiTama5), (0xFE, .huC3), (0xFF, .huC1RamBattery)]

/-- ROM size codes, in bytes (R88). -/
def romSizeCodes : List (Byte × Nat) :=
  [(0x00, 32 * 1024), (0x01, 64 * 1024), (0x02, 128 * 1024), (0x03, 256 * 1024), (0x04, 512 * 1024),
    (0x05, 1024 * 1024), (0x06, 2 * 1024 * 1024), (0x07, 4 * 1024 * 1024), (0x08, 8 * 1024 * 1024),
    (0x52, 72 * 0x4000), (0x53, 80 * 0x4000), (0x54, 96 * 0x4000)]

/-- RAM size codes: the bank count and the bank size (R86). -/
def ramSizeCodes : List (Byte × Nat × Nat) :=
  [(0x00, 0, 0), (0x01, 1, 0x800), (0x02, 1, 0x2000), (0x03, 4, 0x2000), (0x04, 16, 0x2000), (0x05, 8, 0x2000)]

/-- The bank count and bank size of a RAM size code; any other code is no RAM (R86). -/
def ramSizeOf (code : Byte) : Nat × Nat := (ramSizeCodes.lookup code).getD (0, 0)

/-- Controller selection by code (R89). -/
def controllerFor (code : Byte) (unsupported : UnsupportedController) : Option Controller :=
  if code ∈ [0x01, 0x02, 0x03] then some .banked
  else if code ∈ [0x00, 0x08, 0x09] ∨ code ∉ controllerCodes.map Prod.fst then some .noBanking
  else
    match unsupported with
    | .refuse => none
    | .noBanking => some .noBanking
    | .banked => some .banked

end Sys2Proof.Claims

open Sys2Proof Sys2Proof.Machine Sys2Proof.Claims

/-! ### Encoding -/

/-- Words written out from the grids of 30_encoding.md section 5 decode to the instructions they stand for. -/
def Obligations.WordsDecodeAsTheGridsSay : Prop :=
  decode [0x3E, 0x05] = .ok (.ldAN 0x05, []) ∧
  decode [0xC6, 0x03] = .ok (.addAN 0x03, []) ∧
  decode [0x48] = .ok (.ldCB, []) ∧
  decode [0x76] = .ok (.halt, []) ∧
  decode [0x21, 0x34, 0x12] = .ok (.ldHlNn 0x1234, []) ∧
  decode [0x08, 0x00, 0xC0] = .ok (.ldIndNnSp 0xC000, []) ∧
  decode [0x22] = .ok (.ldIndHlIncA, []) ∧
  decode [0x20, 0xFC] = .ok (.jrNzE 0xFC, []) ∧
  decode [0x39] = .ok (.addHlSp, []) ∧
  decode [0x9E] = .ok (.sbcAIndHl, []) ∧
  decode [0xDC, 0x00, 0x40] = .ok (.callCNn 0x4000, []) ∧
  decode [0xF1] = .ok (.popAf, []) ∧
  decode [0xEF] = .ok (.rst28, []) ∧
  decode [0xE0, 0xFF] = .ok (.ldhIndNA 0xFF, []) ∧
  decode [0xD3] = .ok (.illegal 0xD3, []) ∧
  decode [0xCB, 0x37] = .ok (.swapA, []) ∧
  decode [0xCB, 0x7E] = .ok (.bit7IndHl, []) ∧
  decode [0xCB, 0xFE] = .ok (.set7IndHl, [])

/-- Decoding the bytes of a well-formed instruction gives it back, whatever bytes follow; the prefix alone has no following
byte, since the next byte is its sub-opcode. -/
def Obligations.DecodeInvertsEncode : Prop :=
  ∀ i : Instr, i.wellFormed = true →
    decode (encode i) = .ok (i, []) ∧ (i ≠ .prefixCb → ∀ rest, decode (encode i ++ rest) = .ok (i, rest))

/-- What decodes is well formed, and is the encoding of what it decodes to; only STOP leaves its second byte open (R116). -/
def Obligations.EncodeInvertsDecode : Prop :=
  ∀ (bytes rest : List Byte) (i : Instr), decode bytes = .ok (i, rest) →
    i.wellFormed = true ∧
    (i ≠ .stop → bytes = encode i ++ rest) ∧
    (i = .stop → bytes.head? = some 0x10 ∧ rest = bytes.drop 2)

/-- R113: the opcode byte alone fixes the length, and the rest is left over. -/
def Obligations.LengthIsFixedByTheFirstByte : Prop :=
  ∀ (op b1 b2 : Byte) (rest : List Byte),
    ∃ i, decode (op :: b1 :: b2 :: rest) = .ok (i, (op :: b1 :: b2 :: rest).drop (lengthOf op))

/-- R114, R266, R301: an illegal opcode faults after the fetch; only `current_op` and the fault record change. No other byte
decodes to an illegal instruction. -/
def Obligations.IllegalOpcodesFault : Prop :=
  (∀ op ∈ illegalBytes,
    encodedAs [op] (.illegal op) ∧
    (∀ s : State, exec (.illegal op) s =
      .fault (.illegalOpcode { s with
        fault := some { kind := .illegalOpcode, pc := s.pc, opcode := some op, sub := none, address := s.pc,
                        bankOffset := none } })) ∧
    (∀ s : State, noStep s = none → busRead s s.pc = .ok op →
      step s = .fault (.illegalOpcode { s with
        currentOp := op
        fault := some { kind := .illegalOpcode, pc := s.pc, opcode := some op, sub := none, address := s.pc,
                        bankOffset := none } }))) ∧
  (∀ (bytes rest : List Byte) (op : Byte), decode bytes = .ok (.illegal op, rest) → op ∈ illegalBytes)

/-! ### The step -/

/-- A step runs the instruction that the bytes at PC decode to, with the opcode byte in `current_op` (R119, R120, R122). STOP
needs its opcode byte alone, and a prefix whose sub-opcode cannot be read is the prefix handler. -/
def Obligations.StepRunsTheDecodedInstruction : Prop :=
  (∀ (s : State) (bytes : List Byte) (i : Instr), noStep s = none → decode bytes = .ok (i, []) → i ≠ .prefixCb →
    (∀ k b, bytes[k]? = some b → busRead s (s.pc + BitVec.ofNat 16 k) = .ok b) →
    step s = exec i { s with currentOp := bytes.headD 0 }) ∧
  (∀ s : State, noStep s = none → busRead s s.pc = .ok 0x10 → step s = exec .stop { s with currentOp := 0x10 }) ∧
  (∀ (s : State) (e : BusFault), noStep s = none → busRead s s.pc = .ok 0xCB → busRead s (s.pc + 1) = .error e →
    step s = exec .prefixCb { s with currentOp := 0xCB })

/-- R265: the prefix reads the sub-opcode at PC + 1 and runs the rule its fields select (R111), in the same step, with
`current_op` 0xCB; a sub-opcode that cannot be read ends the step with no sub-opcode recorded. -/
def Obligations.PrefixDispatchesOnTheSubOpcode : Prop :=
  (∀ op t, decodeCb (rotCode op + targetCode t) = .cbRot op t) ∧
  (∀ b t, decodeCb (0x40 + bitCode b + targetCode t) = .cbBit b t) ∧
  (∀ b t, decodeCb (0x80 + bitCode b + targetCode t) = .cbRes b t) ∧
  (∀ b t, decodeCb (0xC0 + bitCode b + targetCode t) = .cbSet b t) ∧
  (∀ sub, encodedAs [0xCB, sub] (decodeCb sub)) ∧
  (∀ (s : State) (sub : Byte), busRead s (s.pc + 1) = .ok sub → exec .prefixCb s = exec (decodeCb sub) s) ∧
  (∀ (s : State) (e : BusFault), busRead s (s.pc + 1) = .error e → exec .prefixCb s = accessFault none s e) ∧
  (∀ (s : State) (sub : Byte), noStep s = none → busRead s s.pc = .ok 0xCB → busRead s (s.pc + 1) = .ok sub →
    step s = exec (decodeCb sub) { s with currentOp := 0xCB }) ∧
  (∀ (s : State) (e : BusFault), noStep s = none → busRead s s.pc = .ok 0xCB → busRead s (s.pc + 1) = .error e →
    step s = .fault (takeFault (some 0xCB) none { s with currentOp := 0xCB } e)) ∧
  (∀ s t : State, busRead s s.pc = .ok 0xCB → step s = .next t → t.currentOp = 0xCB ∧ t.pc = s.pc + 2) ∧
  (∀ (s : State) (sub : Byte) (r : Reg8), busRead s (s.pc + 1) = .ok sub → sub &&& 0x07 = regCode r →
    ∃ t, exec .prefixCb s = .next t ∧ t.pc = s.pc + 2)

/-- R119, R122, R309: the opcode is read first, through the ordinary decode, and a fault of that read ends the step with no
opcode recorded and `current_op` as it was; then each operand byte in ascending order. -/
def Obligations.FetchFaultsInOrder : Prop :=
  (∀ (s : State) (e : BusFault), noStep s = none → busRead s s.pc = .error e →
    step s = .fault (takeFault none none s e)) ∧
  (∀ op ∈ opcodesWithOneOperand, operandFaults op 1) ∧
  (∀ op ∈ opcodesWithTwoOperands, operandFaults op 2)

/-- R31, R32: only Running without a fault record has a step. A completed step leaves no record, HALT (0x76) alone leaves
Halted, STOP (0x10) alone leaves Stopped; a step that faults writes the record. -/
def Obligations.RunStateAndFaultGateTheStep : Prop :=
  (∀ (s : State) (r : FaultRecord), s.fault = some r → step s = .fault (.noStepAfterFault r)) ∧
  (∀ s : State, s.fault = none → s.run = .halted → step s = .fault .noStepHalted) ∧
  (∀ s : State, s.fault = none → s.run = .stopped → step s = .fault .noStepStopped) ∧
  (∀ s t : State, step s = .next t →
    s.run = .running ∧ s.fault = none ∧ t.fault = none ∧
    (t.run = .halted ↔ busRead s s.pc = .ok 0x76) ∧ (t.run = .stopped ↔ busRead s s.pc = .ok 0x10)) ∧
  (∀ (s left : State) (f : Fault), step s = .fault f → leftBy f = some left → left.fault ≠ none ∧ left.run = .running)

/-- R311: under `ignore` a running machine always has a step; under `refuse_when_pending` the step is refused exactly when
IME is set and an enabled interrupt's bit is, by a direct read of the two stores. -/
def Obligations.InterruptPolicyIsCheckedBeforeTheFetch : Prop :=
  (∀ s : State, s.run = .running → s.fault = none → s.config.interruptPolicy = .ignore → noStep s = none) ∧
  (∀ s : State, s.run = .running → s.fault = none → s.config.interruptPolicy = .refuseWhenPending →
    (s.ime = true ∧ s.ie &&& Memory.get s.io 0x0F &&& 0x1F ≠ 0 → step s = .refused .interruptWouldBeTaken) ∧
    (¬(s.ime = true ∧ s.ie &&& Memory.get s.io 0x0F &&& 0x1F ≠ 0) → noStep s = none))

/-! ### Faults -/

/-- R306, R307, R308: what a step that faults leaves. PC keeps the instruction's address; the record names it, the opcode
fetched (none if the fetch faulted), the sub-opcode read after a prefix, and the access as the decode faults on it. -/
def Obligations.AFaultingStepLeavesItsRecord : Prop :=
  ∀ (s left : State) (f : Fault), step s = .fault f → leftBy f = some left →
    left.pc = s.pc ∧ left.config = s.config ∧ left.rom = s.rom ∧
    ∃ r : FaultRecord, left.fault = some r ∧ f = Fault.ofKind r.kind left ∧ r.pc = s.pc ∧
      r.opcode = readByte s s.pc ∧
      r.sub = (if r.opcode = some 0xCB then readByte s (s.pc + 1) else none) ∧
      (r.opcode = none → left = { s with fault := some r }) ∧
      (∀ op, r.opcode = some op → left.currentOp = op) ∧
      (r.kind = .illegalOpcode → r.address = s.pc ∧ r.bankOffset = none) ∧
      (r.kind ≠ .illegalOpcode →
        place left r.address = .error { kind := r.kind, address := r.address, bankOffset := r.bankOffset }) ∧
      (r.bankOffset ≠ none ↔ r.kind = .romBankOutOfRange ∨ r.kind = .ramBankOutOfRange)

/-- R306, R307 for one access: the fault is the one of its kind, carrying the state before the access with the record
written; nothing else changes, and no handler is entered. -/
def Obligations.TakingAFaultWritesOnlyTheRecord : Prop :=
  ∀ (opcode sub : Option Byte) (s : State) (e : BusFault),
    takeFault opcode sub s e =
      Fault.ofKind e.kind { s with
        fault := some { kind := e.kind, pc := s.pc, opcode := opcode, sub := sub, address := e.address,
                        bankOffset := e.bankOffset } } ∧
    (FaultKind.code .illegalOpcode = 1 ∧ FaultKind.code .unusableAddress = 2 ∧ FaultKind.code .romBankOutOfRange = 3 ∧
      FaultKind.code .ramBankOutOfRange = 4)

/-! ### Construction and reset -/

/-- R333, R335: the values the spec gives State.reset, and the fixed bank state of its controller without RAM (R336, R69). -/
def Obligations.ResetValues : Prop :=
  State.reset.pc = 0x0100 ∧ State.reset.ime = false ∧ State.reset.currentOp = 0x00 ∧ State.reset.run = .running ∧
  State.reset.fault = none ∧ State.reset.activeRomBank = 1 ∧ State.reset.activeRamBank = 0 ∧
  State.reset.bankingMode = 0 ∧ State.reset.ramEnabled = decide (State.reset.config.ramBankCount > 0) ∧
  State.reset.f &&& 0x0F = 0

/-- R331-R337: construction refuses a bad length, then an unsupported controller, and else yields the initial state. -/
def Obligations.ConstructionYieldsTheInitialState : Prop :=
  ∀ (image : Image) (params : Params),
    (image.length < 0x8000 ∨ image.length % 0x4000 ≠ 0 →
      construct image params = .error (.badLength image.length)) ∧
    (0x8000 ≤ image.length → image.length % 0x4000 = 0 →
      controllerFor (Memory.get image.bytes 0x147) params.unsupportedController = none →
      construct image params = .error (.unsupportedController (parseHeader image).kind)) ∧
    (∀ controller, 0x8000 ≤ image.length → image.length % 0x4000 = 0 →
      controllerFor (Memory.get image.bytes 0x147) params.unsupportedController = some controller →
      ∃ s : State, construct image params = .ok s ∧
        s.config = { controller := controller
                     romBankCount := image.length / 0x4000
                     ramBankCount := (ramSizeOf (Memory.get image.bytes 0x149)).1
                     ramBankSize := (ramSizeOf (Memory.get image.bytes 0x149)).2
                     header := parseHeader image
                     disabledRamRead := params.disabledRamRead
                     interruptPolicy := params.interruptPolicy } ∧
        s.a = params.initialRegs.a ∧ s.f = params.initialRegs.f &&& 0xF0 ∧ s.b = params.initialRegs.b ∧
        s.c = params.initialRegs.c ∧ s.d = params.initialRegs.d ∧ s.e = params.initialRegs.e ∧
        s.h = params.initialRegs.h ∧ s.l = params.initialRegs.l ∧
        s.pc = 0x0100 ∧ s.sp = params.initialSp ∧
        s.ime = false ∧ s.currentOp = 0x00 ∧ s.run = .running ∧ s.fault = none ∧
        (controller = .banked → s.ramEnabled = false) ∧
        (controller = .noBanking → s.ramEnabled = decide ((ramSizeOf (Memory.get image.bytes 0x149)).1 > 0)) ∧
        s.activeRomBank = 1 ∧ s.activeRamBank = 0 ∧ s.bankingMode = 0 ∧
        (∀ n < image.length, Memory.get s.rom n = Memory.get image.bytes n) ∧
        (∀ n < s.config.ramBankCount * s.config.ramBankSize,
          Memory.get s.cram n = Memory.get params.initialMemory.cram n) ∧
        (∀ n < 0x2000, Memory.get s.vram n = Memory.get params.initialMemory.vram n) ∧
        (∀ n < 0x2000, Memory.get s.wram n = Memory.get params.initialMemory.wram n) ∧
        (∀ n < 0xA0, Memory.get s.oam n = Memory.get params.initialMemory.oam n) ∧
        (∀ n < 0x80, Memory.get s.io n = Memory.get params.initialMemory.io n) ∧
        (∀ n < 0x7F, Memory.get s.hram n = Memory.get params.initialMemory.hram n) ∧
        s.ie = params.initialMemory.ie)

/-- R85-R89, R92: the header's fields by offset, its code tables, and the controller each code selects. -/
def Obligations.HeaderCodesDecodeByTheTables : Prop :=
  (∀ row ∈ controllerCodes, controllerKindOf row.1 = row.2) ∧
  (∀ code, code ∉ controllerCodes.map Prod.fst → controllerKindOf code = .unknown code) ∧
  (∀ row ∈ romSizeCodes, romSizeOf row.1 = .bytes row.2) ∧
  (∀ code, code ∉ romSizeCodes.map Prod.fst → romSizeOf code = .unknownMax) ∧
  (∀ code, RamSpec.bankCount (ramSpecOf code) = (ramSizeOf code).1 ∧ RamSpec.bankSize (ramSpecOf code) = (ramSizeOf code).2) ∧
  (∀ code, code ∉ ramSizeCodes.map Prod.fst → ramSpecOf code = .unknown) ∧
  (∀ code unsupported, selectController (controllerKindOf code) unsupported = controllerFor code unsupported) ∧
  (∀ code, destinationOf code = if code = 0x00 then .japanese else .nonJapanese) ∧
  (∀ image, (parseHeader image).kind = controllerKindOf (Memory.get image.bytes 0x147) ∧
    (parseHeader image).romSize = romSizeOf (Memory.get image.bytes 0x148) ∧
    (parseHeader image).ramSpec = ramSpecOf (Memory.get image.bytes 0x149) ∧
    (parseHeader image).destination = destinationOf (Memory.get image.bytes 0x14A)) ∧
  (∀ image, (parseHeader image).title.length ≤ 15 ∧
    (∀ k, k < (parseHeader image).title.length →
      (parseHeader image).title[k]? = some (Memory.get image.bytes (0x134 + k)) ∧
      Memory.get image.bytes (0x134 + k) ≠ 0) ∧
    ((parseHeader image).title.length < 15 →
      Memory.get image.bytes (0x134 + (parseHeader image).title.length) = 0))

/-! ### Invariants -/

/-- Every machine that construction yields meets the invariant. -/
def Obligations.ConstructedMachinesMeetInv : Prop :=
  ∀ (image : Image) (params : Params) (s : State), construct image params = .ok s → s.Inv

/-- The state right after reset meets the invariant, and is what construction yields of the blank image. -/
def Obligations.ResetMeetsInv : Prop := State.reset.Inv ∧ construct Image.blank Params.default = .ok State.reset

/-- A step keeps the invariant, in the next state and in the state a fault leaves. -/
def Obligations.StepKeepsInv : Prop := ∀ s : State, s.Inv → leaves State.Inv (step s)

/-- R34, R35: ROM and the configuration never change after construction: not by a step that completes, not by one that
faults. -/
def Obligations.StepKeepsRomAndConfiguration : Prop :=
  ∀ s : State, leaves (fun t => t.rom = s.rom ∧ t.config = s.config) (step s)

/-- R29: IME is written only by DI, EI and RETI, and read by no instruction; under `ignore` no step reads it. A RETI whose
pop faults leaves it. -/
def Obligations.ImeIsWrittenByThreeAndReadByNone : Prop :=
  (∀ (i : Instr) (s : State), i ≠ .di → i ≠ .ei → i ≠ .reti → leaves (fun t => t.ime = s.ime) (exec i s)) ∧
  (∀ s t : State, exec .di s = .next t → t.ime = false) ∧
  (∀ s t : State, exec .ei s = .next t → t.ime = true) ∧
  (∀ s t : State, exec .reti s = .next t → t.ime = true) ∧
  (∀ (s left : State) (f : Fault), exec .reti s = .fault f → leftBy f = some left → left.ime = s.ime) ∧
  (∀ (i : Instr) (s : State) (on : Bool),
    mapOutcome (fun t => { t with ime := false }) (exec i { s with ime := on }) =
      mapOutcome (fun t => { t with ime := false }) (exec i s)) ∧
  (∀ (s : State) (on : Bool), s.config.interruptPolicy = .ignore →
    mapOutcome (fun t => { t with ime := false }) (step { s with ime := on }) =
      mapOutcome (fun t => { t with ime := false }) (step s))

/-- R30: every step's fetch writes the opcode byte to `current_op` (0xCB for a prefixed instruction), and the value it held
before decides nothing in a step's outcome. An instruction run by itself has the same next state, fault kind or refusal
whatever `current_op` holds: it takes the byte for the opcode of a fault's record alone (the model's choice, log 14). -/
def Obligations.CurrentOpIsWrittenByTheFetchAndSteersNothing : Prop :=
  (∀ s t : State, step s = .next t → busRead s s.pc = .ok t.currentOp) ∧
  (∀ (s : State) (op : Byte),
    mapOutcome (fun t => { t with currentOp := 0 }) (step { s with currentOp := op }) =
      mapOutcome (fun t => { t with currentOp := 0 }) (step s)) ∧
  (∀ (i : Instr) (s : State) (op : Byte),
    nextOf (exec i { s with currentOp := op }) = (nextOf (exec i s)).map fun t => { t with currentOp := op }) ∧
  (∀ (i : Instr) (s : State) (op : Byte),
    mapOutcome withoutOpcode (exec i { s with currentOp := op }) = mapOutcome withoutOpcode (exec i s))

/-- R67: a write to 0x6000-0x7FFF stores the mode, and no rule reads it: two machines that differ in it alone step alike. -/
def Obligations.BankingModeIsStoredAndReadByNoRule : Prop :=
  (∀ (s : State) (address : Word) (v : Byte), s.config.controller = .banked → 0x6000 ≤ address.toNat →
    address.toNat ≤ 0x7FFF → busWrite s address v = .ok { s with bankingMode := BitVec.ofNat 2 (v.toNat % 4) }) ∧
  (∀ (s : State) (mode : BitVec 2),
    mapOutcome (fun t => { t with bankingMode := 0 }) (step { s with bankingMode := mode }) =
      mapOutcome (fun t => { t with bankingMode := 0 }) (step s))

/-! ### Memory and the bus -/

/-- A byte written to a store is read back and no other byte changes; every write keeps the canonical form; in that form,
stores with equal bytes are equal. -/
def Obligations.StoresAreCanonical : Prop :=
  (∀ (m : Memory) (n k : Nat) (v : Byte), Memory.get (Memory.set m n v) k = if k = n then v else Memory.get m k) ∧
  (∀ (m : Memory) (n : Nat) (v : Byte), Memory.wf m → Memory.wf (Memory.set m n v)) ∧
  (∀ m m' : Memory, Memory.wf m → Memory.wf m' → (∀ n, Memory.get m n = Memory.get m' n) → m = m')

/-- R51-R62: what a read of each address gives. -/
def Obligations.ReadsFollowTheDecodeTable : Prop :=
  ∀ (s : State) (address : Word),
    (address.toNat ≤ 0x3FFF → busRead s address = romBankRead s address 0 address.toNat) ∧
    (0x4000 ≤ address.toNat → address.toNat ≤ 0x7FFF →
      busRead s address = romBankRead s address (activeWindow s) (address.toNat - 0x4000)) ∧
    (0x8000 ≤ address.toNat → address.toNat ≤ 0x9FFF →
      busRead s address = .ok (Memory.get s.vram (address.toNat - 0x8000))) ∧
    (0xA000 ≤ address.toNat → address.toNat ≤ 0xBFFF → s.ramEnabled = false →
      busRead s address = .ok s.config.disabledRamRead) ∧
    (0xA000 ≤ address.toNat → address.toNat ≤ 0xBFFF → s.ramEnabled = true →
      (s.config.ramBankCount ≤ activeRam s ∨ s.config.ramBankSize ≤ address.toNat - 0xA000) →
      busRead s address = .error (ramFault s address)) ∧
    (0xA000 ≤ address.toNat → address.toNat ≤ 0xBFFF → s.ramEnabled = true → activeRam s < s.config.ramBankCount →
      address.toNat - 0xA000 < s.config.ramBankSize →
      busRead s address =
        .ok (Memory.get s.cram (activeRam s * s.config.ramBankSize + (address.toNat - 0xA000)))) ∧
    (0xC000 ≤ address.toNat → address.toNat ≤ 0xDFFF →
      busRead s address = .ok (Memory.get s.wram (address.toNat - 0xC000))) ∧
    (0xE000 ≤ address.toNat → address.toNat ≤ 0xFDFF →
      busRead s address = .ok (Memory.get s.wram (address.toNat - 0xE000))) ∧
    (0xFE00 ≤ address.toNat → address.toNat ≤ 0xFE9F →
      busRead s address = .ok (Memory.get s.oam (address.toNat - 0xFE00))) ∧
    (0xFEA0 ≤ address.toNat → address.toNat ≤ 0xFEFF → busRead s address = .error (unusableFault address)) ∧
    (0xFF00 ≤ address.toNat → address.toNat ≤ 0xFF7F →
      busRead s address = .ok (Memory.get s.io (address.toNat - 0xFF00))) ∧
    (0xFF80 ≤ address.toNat → address.toNat ≤ 0xFFFE →
      busRead s address = .ok (Memory.get s.hram (address.toNat - 0xFF80))) ∧
    (address.toNat = 0xFFFF → busRead s address = .ok s.ie)

/-- R63, R68, R69: what a write of each address does; the control writes of the Banked controller are
`ControlWritesSetTheBankState` and `BankingModeIsStoredAndReadByNoRule`. -/
def Obligations.WritesFollowTheDecodeTable : Prop :=
  ∀ (s : State) (address : Word) (v : Byte),
    (address.toNat ≤ 0x7FFF → s.config.controller = .noBanking → busWrite s address v = .ok s) ∧
    (0x8000 ≤ address.toNat → address.toNat ≤ 0x9FFF →
      busWrite s address v = .ok { s with vram := Memory.set s.vram (address.toNat - 0x8000) v }) ∧
    (0xA000 ≤ address.toNat → address.toNat ≤ 0xBFFF → s.ramEnabled = false → busWrite s address v = .ok s) ∧
    (0xA000 ≤ address.toNat → address.toNat ≤ 0xBFFF → s.ramEnabled = true →
      (s.config.ramBankCount ≤ activeRam s ∨ s.config.ramBankSize ≤ address.toNat - 0xA000) →
      busWrite s address v = .error (ramFault s address)) ∧
    (0xA000 ≤ address.toNat → address.toNat ≤ 0xBFFF → s.ramEnabled = true → activeRam s < s.config.ramBankCount →
      address.toNat - 0xA000 < s.config.ramBankSize →
      busWrite s address v =
        .ok { s with cram := Memory.set s.cram (activeRam s * s.config.ramBankSize + (address.toNat - 0xA000)) v }) ∧
    (0xC000 ≤ address.toNat → address.toNat ≤ 0xDFFF →
      busWrite s address v = .ok { s with wram := Memory.set s.wram (address.toNat - 0xC000) v }) ∧
    (0xE000 ≤ address.toNat → address.toNat ≤ 0xFDFF →
      busWrite s address v = .ok { s with wram := Memory.set s.wram (address.toNat - 0xE000) v }) ∧
    (0xFE00 ≤ address.toNat → address.toNat ≤ 0xFE9F →
      busWrite s address v = .ok { s with oam := Memory.set s.oam (address.toNat - 0xFE00) v }) ∧
    (0xFEA0 ≤ address.toNat → address.toNat ≤ 0xFEFF → busWrite s address v = .error (unusableFault address)) ∧
    (0xFF00 ≤ address.toNat → address.toNat ≤ 0xFF7F →
      busWrite s address v = .ok { s with io := Memory.set s.io (address.toNat - 0xFF00) v }) ∧
    (0xFF80 ≤ address.toNat → address.toNat ≤ 0xFFFE →
      busWrite s address v = .ok { s with hram := Memory.set s.hram (address.toNat - 0xFF80) v }) ∧
    (address.toNat = 0xFFFF → busWrite s address v = .ok { s with ie := v })

/-- R64, R65, R66: the control writes of the Banked controller; the selected ROM bank is what the very next read of the
window sees (R53, R82), and one past the image faults there, not at the write (R52). That 0 selects bank 1 is the spec's own
decision (92_eei_decisions.md D4), and so is the fault of a bank past the image (D7). -/
def Obligations.ControlWritesSetTheBankState : Prop :=
  ∀ (s : State) (address : Word) (v : Byte), s.config.controller = .banked →
    (address.toNat ≤ 0x1FFF →
      busWrite s address v = .ok { s with ramEnabled := decide (v.toNat % 16 = 0x0A) }) ∧
    (0x2000 ≤ address.toNat → address.toNat ≤ 0x3FFF →
      busWrite s address v =
        .ok { s with activeRomBank := BitVec.ofNat 5 (if v.toNat % 32 = 0 then 1 else v.toNat % 32) }) ∧
    (0x4000 ≤ address.toNat → address.toNat ≤ 0x5FFF →
      busWrite s address v = .ok { s with activeRamBank := BitVec.ofNat 2 (v.toNat % 4) }) ∧
    (∀ (t : State) (b : Word), 0x2000 ≤ address.toNat → address.toNat ≤ 0x3FFF → busWrite s address v = .ok t →
      0x4000 ≤ b.toNat → b.toNat ≤ 0x7FFF →
      busRead t b = romBankRead s b (if v.toNat % 32 = 0 then 1 else v.toNat % 32) (b.toNat - 0x4000))

/-- R76, R78: a completed write of a data address is what the next read of it sees, through every address that leads to the
same byte (the echo of work RAM among them, R57); a write to disabled cartridge RAM is discarded (R68); every other read
gives what it gave; and the CPU, ROM and the configuration stay. -/
def Obligations.AWriteIsSeenByTheNextRead : Prop :=
  (∀ (s t : State) (address : Word) (v : Byte), busWrite s address v = .ok t →
    (∀ r, reg8 t r = reg8 s r) ∧ t.f = s.f ∧ t.sp = s.sp ∧ t.pc = s.pc ∧ t.ime = s.ime ∧ t.currentOp = s.currentOp ∧
    t.run = s.run ∧ t.fault = s.fault ∧ t.rom = s.rom ∧ t.config = s.config ∧
    storesOnlyAt [address] s t ∧
    (0x8000 ≤ address.toNat → ∀ b, busRead t b =
      if place s b = place s address ∧ place s address ≠ .ok .cramDisabled then .ok v else busRead s b)) ∧
  (∀ (s : State) (k : Nat), k < 0x1E00 →
    place s (BitVec.ofNat 16 (0xE000 + k)) = place s (BitVec.ofNat 16 (0xC000 + k)))

/-- R59, R302: every access to 0xFEA0-0xFEFF faults: a read, a write, an opcode fetch, an operand fetch, and the bulk read. -/
def Obligations.TheUnusableRangeFaults : Prop :=
  ∀ (s : State) (address : Word), 0xFEA0 ≤ address.toNat → address.toNat ≤ 0xFEFF →
    busRead s address = .error (unusableFault address) ∧
    (∀ v, busWrite s address v = .error (unusableFault address)) ∧
    (noStep s = none → s.pc = address → step s = .fault (.unusableAddress { s with
      fault := some { kind := .unusableAddress, pc := address, opcode := none, sub := none, address := address,
                      bankOffset := none } })) ∧
    readRange s address.toNat (address.toNat + 1) = .error (unusableFault address)

/-- R300, R303, R304: a bus access faults in these cases and in no other (fixed ROM has its two banks, which the invariant
says of every machine). -/
def Obligations.AccessesFaultExactlyWhere : Prop :=
  ∀ (s : State) (address : Word), 2 ≤ s.config.romBankCount →
    ((∃ e, busRead s address = .error e) ↔
      (0xFEA0 ≤ address.toNat ∧ address.toNat ≤ 0xFEFF) ∨
      (0x4000 ≤ address.toNat ∧ address.toNat ≤ 0x7FFF ∧ s.config.romBankCount ≤ activeWindow s) ∨
      (0xA000 ≤ address.toNat ∧ address.toNat ≤ 0xBFFF ∧ s.ramEnabled = true ∧
        (s.config.ramBankCount ≤ activeRam s ∨ s.config.ramBankSize ≤ address.toNat - 0xA000))) ∧
    (∀ v, (∃ e, busWrite s address v = .error e) ↔
      (0xFEA0 ≤ address.toNat ∧ address.toNat ≤ 0xFEFF) ∨
      (0xA000 ≤ address.toNat ∧ address.toNat ≤ 0xBFFF ∧ s.ramEnabled = true ∧
        (s.config.ramBankCount ≤ activeRam s ∨ s.config.ramBankSize ≤ address.toNat - 0xA000)))

/-- R15: the bulk read gives the byte of each address in ascending order, or the fault of the first that faults. -/
def Obligations.BulkReadIsTheReadDecode : Prop :=
  ∀ (s : State) (start stop : Nat), stop ≤ 0x10000 →
    (∀ bytes, readRange s start stop = .ok bytes →
      bytes.length = stop - start ∧
      ∀ k v, bytes[k]? = some v → busRead s (BitVec.ofNat 16 (start + k)) = .ok v) ∧
    (∀ e, readRange s start stop = .error e →
      ∃ k, start + k < stop ∧ busRead s (BitVec.ofNat 16 (start + k)) = .error e ∧
        ∀ j < k, ∃ v, busRead s (BitVec.ofNat 16 (start + j)) = .ok v)

/-! ### Registers and flags -/

/-- R20-R23: eight independent cells; the pairs are views; a pair write changes its two cells alone, and F's low nibble is
written as zero. -/
def Obligations.PairsAreViewsOfTheCells : Prop :=
  (∀ (s : State) (r r' : Reg8) (v : Byte), reg8 (setReg8 s r v) r' = if r' = r then v else reg8 s r') ∧
  (∀ (s : State) (p : Pair), pair s p = pairValue s p) ∧
  (∀ (s : State) (q : StackPair), stackPair s q = stackPairValue s q) ∧
  (∀ (s : State) (p : Pair) (v : Word), setPair s p v = writePair s p v ∧ pair (setPair s p v) p = v) ∧
  (∀ (s : State) (q : StackPair) (v : Word), setStackPair s q v = writeStackPair s q v) ∧
  (∀ (s : State) (q : StackPair) (v : Word),
    stackPair (setStackPair s q v) q = if q = .af then v &&& 0xFFF0 else v) ∧
  (∀ (s : State) (v : Byte), setF s v = { s with f := v &&& 0xF0 })

/-- R24-R26, R39: the places of the flags; an accessor writes its own bit alone; a flag not listed keeps its value; the four
conditions. -/
def Obligations.FlagsAreIndependentBits : Prop :=
  (∀ f, flagOf f .z = f.getLsbD 7 ∧ flagOf f .n = f.getLsbD 6 ∧ flagOf f .h = f.getLsbD 5 ∧ flagOf f .c = f.getLsbD 4) ∧
  (∀ f g on, flagOf (putFlag f g on) g = on ∧ (putFlag f g on) &&& 0x0F = f &&& 0x0F ∧
    ∀ g', g' ≠ g → flagOf (putFlag f g on) g' = flagOf f g') ∧
  (∀ f z n h c, updateFlags f ⟨z, n, h, c⟩ =
    flagByte f (z.getD (f.getLsbD 7)) (n.getD (f.getLsbD 6)) (h.getD (f.getLsbD 5)) (c.getD (f.getLsbD 4))) ∧
  (∀ s cc, condHolds s cc = condition s cc)

/-! ### Loads (40_loads.md) -/

/-- R130, R131: LD r,r' and LD r,n. -/
def Obligations.LoadRegisterOrImmediate : Prop :=
  (∀ dst src, encodedAs [0x40 + 8 * regCode dst + regCode src] (.ldRegReg dst src)) ∧
  (∀ dst src s, exec (.ldRegReg dst src) s = .next { setReg8 s dst (reg8 s src) with pc := s.pc + 1 }) ∧
  (∀ dst n, encodedAs [0x06 + 8 * regCode dst, n] (.ldRegImm dst n)) ∧
  (∀ dst n s, exec (.ldRegImm dst n) s = .next { setReg8 s dst n with pc := s.pc + 2 }) ∧
  (∀ dst, operandFaults (0x06 + 8 * regCode dst) 1)

/-- R132, R135, R136, R139, R141, R143: the loads of one byte from memory. -/
def Obligations.LoadFromMemory : Prop :=
  (∀ dst, encodedAs [0x46 + 8 * regCode dst] (.ldRegInd dst) ∧
    readsByte (.ldRegInd dst) hl fun s v => { setReg8 s dst v with pc := s.pc + 1 }) ∧
  (encodedAs [0x0A] .ldAIndBc ∧ readsByte .ldAIndBc bc fun s v => { s with a := v, pc := s.pc + 1 }) ∧
  (encodedAs [0x1A] .ldAIndDe ∧ readsByte .ldAIndDe de fun s v => { s with a := v, pc := s.pc + 1 }) ∧
  (∀ nn, encodedAs [0xFA, low nn, high nn] (.ldAIndNn nn) ∧
    readsByte (.ldAIndNn nn) (fun _ => nn) fun s v => { s with a := v, pc := s.pc + 3 }) ∧
  (∀ n, encodedAs [0xF0, n] (.ldhAIndN n) ∧
    ∀ s, ∃ v, busRead s (word 0xFF n) = .ok v ∧ exec (.ldhAIndN n) s = .next { s with a := v, pc := s.pc + 2 }) ∧
  (encodedAs [0xF2] .ldAIndC ∧
    ∀ s, ∃ v, busRead s (word 0xFF s.c) = .ok v ∧ exec .ldAIndC s = .next { s with a := v, pc := s.pc + 1 }) ∧
  operandFaults 0xFA 2 ∧ operandFaults 0xF0 1

/-- R133, R134, R137, R138, R140, R142, R144: the stores of one byte. -/
def Obligations.StoreToMemory : Prop :=
  (∀ src, encodedAs [0x70 + regCode src] (.ldIndReg src) ∧
    writesByte (.ldIndReg src) hl (fun s => reg8 s src) fun s t => { t with pc := s.pc + 1 }) ∧
  (∀ n, encodedAs [0x36, n] (.ldIndHlN n) ∧
    writesByte (.ldIndHlN n) hl (fun _ => n) fun s t => { t with pc := s.pc + 2 }) ∧
  (encodedAs [0x02] .ldIndBcA ∧ writesByte .ldIndBcA bc (fun s => s.a) fun s t => { t with pc := s.pc + 1 }) ∧
  (encodedAs [0x12] .ldIndDeA ∧ writesByte .ldIndDeA de (fun s => s.a) fun s t => { t with pc := s.pc + 1 }) ∧
  (∀ nn, encodedAs [0xEA, low nn, high nn] (.ldIndNnA nn) ∧
    writesByte (.ldIndNnA nn) (fun _ => nn) (fun s => s.a) fun s t => { t with pc := s.pc + 3 }) ∧
  (∀ n, encodedAs [0xE0, n] (.ldhIndNA n) ∧
    ∀ s, ∃ t, busWrite s (word 0xFF n) s.a = .ok t ∧ exec (.ldhIndNA n) s = .next { t with pc := s.pc + 2 }) ∧
  (encodedAs [0xE2] .ldIndCA ∧
    ∀ s, ∃ t, busWrite s (word 0xFF s.c) s.a = .ok t ∧ exec .ldIndCA s = .next { t with pc := s.pc + 1 }) ∧
  operandFaults 0x36 1 ∧ operandFaults 0xEA 2 ∧ operandFaults 0xE0 1

/-- R145-R148: the post-increment and post-decrement forms; HL is stepped as one wrapping 16-bit number, after the access. -/
def Obligations.LoadAndStepHl : Prop :=
  (encodedAs [0x22] .ldIndHlIncA ∧ writesByte .ldIndHlIncA hl (fun s => s.a) fun s t =>
    { t with h := high (hl s + 1), l := low (hl s + 1), pc := s.pc + 1 }) ∧
  (encodedAs [0x2A] .ldAIndHlInc ∧ readsByte .ldAIndHlInc hl fun s v =>
    { s with a := v, h := high (hl s + 1), l := low (hl s + 1), pc := s.pc + 1 }) ∧
  (encodedAs [0x32] .ldIndHlDecA ∧ writesByte .ldIndHlDecA hl (fun s => s.a) fun s t =>
    { t with h := high (hl s - 1), l := low (hl s - 1), pc := s.pc + 1 }) ∧
  (encodedAs [0x3A] .ldAIndHlDec ∧ readsByte .ldAIndHlDec hl fun s v =>
    { s with a := v, h := high (hl s - 1), l := low (hl s - 1), pc := s.pc + 1 })

/-- R149, R150, R151: LD rr,nn; LD (nn),SP, which stores the low byte at nn and then the high byte at nn + 1; LD SP,HL. -/
def Obligations.SixteenBitLoads : Prop :=
  (∀ p nn, encodedAs [0x01 + pairCode p, low nn, high nn] (.ldPairImm p nn)) ∧
  (∀ p nn s, exec (.ldPairImm p nn) s = .next { writePair s p nn with pc := s.pc + 3 }) ∧
  (∀ p, operandFaults (0x01 + pairCode p) 2) ∧
  (∀ nn, encodedAs [0x08, low nn, high nn] (.ldIndNnSp nn)) ∧
  (∀ nn, writesTwo (.ldIndNnSp nn) (fun _ => nn) (fun s => low s.sp) (fun _ => nn + 1) (fun s => high s.sp)
    fun s t => { t with pc := s.pc + 3 }) ∧
  operandFaults 0x08 2 ∧
  encodedAs [0xF9] .ldSpHl ∧
  (∀ s, exec .ldSpHl s = .next { s with sp := hl s, pc := s.pc + 1 })

/-- R152, R200, R204: LD HL,SP+e and ADD SP,e; the sum is signed, H and C are of the low bytes with `e` unsigned. -/
def Obligations.StackPointerPlusDisplacement : Prop :=
  (∀ e, encodedAs [0xF8, e] (.ldHlSpE e)) ∧
  (∀ e s, exec (.ldHlSpE e) s = .next { s with
    h := high (spSum s.sp e), l := low (spSum s.sp e)
    f := flagByte s.f false false (spHalf s.sp e) (spCarry s.sp e), pc := s.pc + 2 }) ∧
  operandFaults 0xF8 1 ∧
  (∀ e, encodedAs [0xE8, e] (.addSpE e)) ∧
  (∀ e s, exec (.addSpE e) s = .next { s with
    sp := spSum s.sp e, f := flagByte s.f false false (spHalf s.sp e) (spCarry s.sp e), pc := s.pc + 2 }) ∧
  operandFaults 0xE8 1

/-- R153: PUSH qq stores the high byte at SP - 1, then the low byte at SP - 2, and lowers SP by 2. -/
def Obligations.PushPair : Prop :=
  ∀ q, encodedAs [0xC5 + stackPairCode q] (.pushPair q) ∧
    pushes (.pushPair q) (fun s => stackPairValue s q) fun s t => { t with pc := s.pc + 1 }

/-- R154, R155: POP qq reads the low byte at SP, then the high byte at SP + 1, and raises SP by 2; POP AF drops the low
nibble of F. -/
def Obligations.PopPair : Prop :=
  ∀ q, encodedAs [0xC1 + stackPairCode q] (.popPair q) ∧
    pops (.popPair q) fun s v => { writeStackPair s q v with pc := s.pc + 1 }

/-! ### 8-bit arithmetic and logic (41_alu8.md) -/

/-- R171, R172: ADD and ADC, in the source forms of R170. -/
def Obligations.AddAndAddWithCarry : Prop :=
  aluRule .add 0x80 0xC6 (addEffect 0) ∧ aluRule .adc 0x88 0xCE fun s x n => addEffect (cf s).toNat s x n

/-- R173, R174, R178: SUB, SBC and CP, in the source forms of R170. -/
def Obligations.SubtractAndCompare : Prop :=
  aluRule .sub 0x90 0xD6 (subEffect 0) ∧
  aluRule .sbc 0x98 0xDE (fun s x n => subEffect (cf s).toNat s x n) ∧
  aluRule .cp 0xB8 0xFE fun s x n => { s with f := subFlags 0 s x, pc := s.pc + n }

/-- R175-R177: AND, XOR and OR, in the source forms of R170. -/
def Obligations.AndXorOr : Prop :=
  aluRule .and 0xA0 0xE6 (logicEffect (fun a x => a &&& x) true) ∧
  aluRule .xor 0xA8 0xEE (logicEffect (fun a x => a ^^^ x) false) ∧
  aluRule .or 0xB0 0xF6 (logicEffect (fun a x => a ||| x) false)

/-- R179, R181: INC r and DEC r; C is not written. -/
def Obligations.IncrementAndDecrementRegister : Prop :=
  (∀ r, encodedAs [0x04 + 8 * regCode r] (.incReg r)) ∧
  (∀ r s, exec (.incReg r) s = .next { setReg8 s r (BitVec.ofNat 8 ((reg8 s r).toNat + 1)) with
    f := flagByte s.f ((reg8 s r).toNat == 0xFF) false ((reg8 s r).toNat % 16 == 0x0F) (cf s), pc := s.pc + 1 }) ∧
  (∀ r, encodedAs [0x05 + 8 * regCode r] (.decReg r)) ∧
  (∀ r s, exec (.decReg r) s = .next { setReg8 s r (BitVec.ofInt 8 ((reg8 s r).toNat - 1)) with
    f := flagByte s.f ((reg8 s r).toNat == 1) true ((reg8 s r).toNat % 16 == 0) (cf s), pc := s.pc + 1 })

/-- R180, R182: INC (HL) and DEC (HL), a read and then a write of the same address. -/
def Obligations.IncrementAndDecrementMemory : Prop :=
  (encodedAs [0x34] .incIndHl ∧ ∀ s,
    (∀ v, busRead s (hl s) = .ok v → ∃ t, busWrite s (hl s) (BitVec.ofNat 8 (v.toNat + 1)) = .ok t ∧
      exec .incIndHl s = .next { t with
        f := flagByte s.f (v.toNat == 0xFF) false (v.toNat % 16 == 0x0F) (cf s), pc := s.pc + 1 }) ∧
    (∀ e, busRead s (hl s) = .error e → exec .incIndHl s = accessFault none s e)) ∧
  (encodedAs [0x35] .decIndHl ∧ ∀ s,
    (∀ v, busRead s (hl s) = .ok v → ∃ t, busWrite s (hl s) (BitVec.ofInt 8 (v.toNat - 1)) = .ok t ∧
      exec .decIndHl s = .next { t with
        f := flagByte s.f (v.toNat == 1) true (v.toNat % 16 == 0) (cf s), pc := s.pc + 1 }) ∧
    (∀ e, busRead s (hl s) = .error e → exec .decIndHl s = accessFault none s e))

/-- R183: DAA; N is not written, H is cleared. -/
def Obligations.DecimalAdjust : Prop :=
  encodedAs [0x27] .daa ∧
  ∀ s, exec .daa s =
    .next { s with
      a := (decimalAdjusted s.a.toNat (nf s) (hf s) (cf s)).1
      f := flagByte s.f ((decimalAdjusted s.a.toNat (nf s) (hf s) (cf s)).1 == 0) (nf s) false
        (decimalAdjusted s.a.toNat (nf s) (hf s) (cf s)).2
      pc := s.pc + 1 }

/-- What DAA is for (the example of R183, after R171 and R173): after the addition or subtraction of two packed decimal numbers
below 100, it leaves the packed decimal result, and C the decimal carry or borrow. -/
def Obligations.DecimalAdjustMakesDecimalArithmetic : Prop :=
  ∀ (s : State) (x y : Nat), x < 100 → y < 100 → s.a = bcd x →
    (∃ t u, exec (.addAN (bcd y)) s = .next t ∧ exec .daa t = .next u ∧ u.a = bcd ((x + y) % 100) ∧
      cf u = decide (100 ≤ x + y)) ∧
    (∃ t u, exec (.subAN (bcd y)) s = .next t ∧ exec .daa t = .next u ∧ u.a = bcd ((100 + x - y) % 100) ∧
      cf u = decide (x < y))

/-- R184, R185, R186: CPL, SCF and CCF. -/
def Obligations.ComplementAndCarryFlag : Prop :=
  encodedAs [0x2F] .cpl ∧
  (∀ s, exec .cpl s = .next { s with
    a := BitVec.ofNat 8 (255 - s.a.toNat), f := flagByte s.f (zf s) true true (cf s), pc := s.pc + 1 }) ∧
  encodedAs [0x37] .scf ∧
  (∀ s, exec .scf s = .next { s with f := flagByte s.f (zf s) false false true, pc := s.pc + 1 }) ∧
  encodedAs [0x3F] .ccf ∧
  (∀ s, exec .ccf s = .next { s with f := flagByte s.f (zf s) false false (!cf s), pc := s.pc + 1 })

/-! ### 16-bit arithmetic (42_alu16.md) -/

/-- R201, R202, R203: ADD HL,rr leaves Z, with H from bit 11 and C from bit 15; INC rr and DEC rr wrap and write no flag. -/
def Obligations.SixteenBitArithmetic : Prop :=
  (∀ p, encodedAs [0x09 + pairCode p] (.addHlPair p)) ∧
  (∀ p s, exec (.addHlPair p) s = .next { s with
    h := high (BitVec.ofNat 16 ((hl s).toNat + (pairValue s p).toNat))
    l := low (BitVec.ofNat 16 ((hl s).toNat + (pairValue s p).toNat))
    f := flagByte s.f (zf s) false (decide ((hl s).toNat % 4096 + (pairValue s p).toNat % 4096 > 4095))
      (decide ((hl s).toNat + (pairValue s p).toNat > 65535))
    pc := s.pc + 1 }) ∧
  (∀ p, encodedAs [0x03 + pairCode p] (.incPair p)) ∧
  (∀ p s, exec (.incPair p) s =
    .next { writePair s p (BitVec.ofNat 16 ((pairValue s p).toNat + 1)) with pc := s.pc + 1 }) ∧
  (∀ p, encodedAs [0x0B + pairCode p] (.decPair p)) ∧
  (∀ p s, exec (.decPair p) s =
    .next { writePair s p (BitVec.ofInt 16 ((pairValue s p).toNat - 1)) with pc := s.pc + 1 })

/-! ### Rotates, shifts and bits (43_rotate_shift.md, 44_bit.md) -/

/-- R210-R213: the accumulator rotates always clear Z. -/
def Obligations.RotateAccumulator : Prop :=
  encodedAs [0x07] .rlca ∧ encodedAs [0x0F] .rrca ∧ encodedAs [0x17] .rla ∧ encodedAs [0x1F] .rra ∧
  ∀ s : State, ∀ row ∈ [(Instr.rlca, RotOp.rlc), (.rrca, .rrc), (.rla, .rl), (.rra, .rr)],
    exec row.1 s = .next { s with
      a := (rotated row.2 s.a (cf s)).1
      f := flagByte s.f false false false (rotated row.2 s.a (cf s)).2
      pc := s.pc + 1 }

/-- R214-R222: the CB rotates, shifts and SWAP on a register or on the byte at HL. -/
def Obligations.RotateAndShift : Prop :=
  ∀ op t, cbRule (.cbRot op t) (rotCode op + targetCode t) t
    (fun s v => (rotated op v (cf s)).1)
    (fun s v => flagByte s.f ((rotated op v (cf s)).1 == 0) false false (rotated op v (cf s)).2)

/-- R230, R231, R232: BIT reads its operand and writes Z, N and H alone; RES and SET write the operand and no flag. -/
def Obligations.TestResetAndSetBit : Prop :=
  (∀ b t, encodedAs [0xCB, 0x40 + bitCode b + targetCode t] (.cbBit b t)) ∧
  (∀ b r s, exec (.cbBit b (.reg r)) s = .next { s with
    f := flagByte s.f ((reg8 s r).toNat / 2 ^ b.toNat % 2 == 0) false true (cf s), pc := s.pc + 2 }) ∧
  (∀ b s, (∀ v, busRead s (hl s) = .ok v → exec (.cbBit b .indHl) s = .next { s with
      f := flagByte s.f (v.toNat / 2 ^ b.toNat % 2 == 0) false true (cf s), pc := s.pc + 2 }) ∧
    (∀ e, busRead s (hl s) = .error e →
      exec (.cbBit b .indHl) s = accessFault (some (0x40 + bitCode b + targetCode .indHl)) s e)) ∧
  (∀ b t, cbRule (.cbRes b t) (0x80 + bitCode b + targetCode t) t (fun _ v => bitCleared v b) fun s _ => s.f) ∧
  (∀ b t, cbRule (.cbSet b t) (0xC0 + bitCode b + targetCode t) t (fun _ v => bitSet v b) fun s _ => s.f)

/-! ### Control transfer (45_control_flow.md) -/

/-- R240-R244: the jumps; a relative target is from the address after the instruction. -/
def Obligations.Jumps : Prop :=
  (∀ nn, encodedAs [0xC3, low nn, high nn] (.jpNn nn)) ∧
  (∀ nn s, exec (.jpNn nn) s = .next { s with pc := nn }) ∧
  (∀ cc nn, encodedAs [0xC2 + condCode cc, low nn, high nn] (.jpCond cc nn)) ∧
  (∀ cc nn s, exec (.jpCond cc nn) s = .next { s with pc := if condition s cc then nn else s.pc + 3 }) ∧
  encodedAs [0xE9] .jpHl ∧
  (∀ s, exec .jpHl s = .next { s with pc := hl s }) ∧
  (∀ e, encodedAs [0x18, e] (.jrE e)) ∧
  (∀ e s, exec (.jrE e) s = .next { s with pc := BitVec.ofInt 16 (s.pc.toNat + 2 + signed8 e) }) ∧
  (∀ cc e, encodedAs [0x20 + condCode cc, e] (.jrCond cc e)) ∧
  (∀ cc e s, exec (.jrCond cc e) s = .next { s with
    pc := if condition s cc then BitVec.ofInt 16 (s.pc.toNat + 2 + signed8 e) else s.pc + 2 }) ∧
  operandFaults 0xC3 2 ∧ (∀ cc, operandFaults (0xC2 + condCode cc) 2) ∧
  operandFaults 0x18 1 ∧ (∀ cc, operandFaults (0x20 + condCode cc) 1)

/-- R245, R246, R250: CALL and RST push the address after the instruction and jump; a CALL cc not taken makes no stack
access. -/
def Obligations.Calls : Prop :=
  (∀ nn, encodedAs [0xCD, low nn, high nn] (.callNn nn)) ∧
  (∀ nn, pushes (.callNn nn) (fun s => s.pc + 3) fun _ t => { t with pc := nn }) ∧
  (∀ cc nn, encodedAs [0xC4 + condCode cc, low nn, high nn] (.callCond cc nn)) ∧
  (∀ cc nn s, condition s cc = true → exec (.callCond cc nn) s = exec (.callNn nn) s) ∧
  (∀ cc nn s, condition s cc = false → exec (.callCond cc nn) s = .next { s with pc := s.pc + 3 }) ∧
  (∀ k, encodedAs [0xC7 + bitCode k] (.rst k)) ∧
  (∀ k, pushes (.rst k) (fun s => s.pc + 1) fun _ t => { t with pc := BitVec.ofNat 16 (8 * k.toNat) }) ∧
  operandFaults 0xCD 2 ∧ (∀ cc, operandFaults (0xC4 + condCode cc) 2)

/-- R247, R248, R249: RET and RETI pop PC; RETI sets IME; a RET cc not taken makes no stack access. That RETI sets IME at once
is the spec's own decision (92_eei_decisions.md D10, log 16). -/
def Obligations.Returns : Prop :=
  encodedAs [0xC9] .ret ∧ pops .ret (fun s v => { s with pc := v }) ∧
  (∀ cc, encodedAs [0xC0 + condCode cc] (.retCond cc)) ∧
  (∀ cc s, condition s cc = true → exec (.retCond cc) s = exec .ret s) ∧
  (∀ cc s, condition s cc = false → exec (.retCond cc) s = .next { s with pc := s.pc + 1 }) ∧
  encodedAs [0xD9] .reti ∧ pops .reti (fun s v => { s with pc := v, ime := true })

/-- The stack discipline (the reading of R73): where the two stack bytes hold what is written, a RET after a CALL or an RST
comes back to the instruction after it with SP as before, and a POP after a PUSH brings the pair and SP back. -/
def Obligations.StackDiscipline : Prop :=
  ∀ s : State, 0x8000 ≤ (s.sp - 1).toNat → 0x8000 ≤ (s.sp - 2).toNat →
    (∃ p, place s (s.sp - 1) = .ok p ∧ p ≠ .cramDisabled) → (∃ p, place s (s.sp - 2) = .ok p ∧ p ≠ .cramDisabled) →
    (∀ nn, ∃ t u, exec (.callNn nn) s = .next t ∧ t.pc = nn ∧ exec .ret t = .next u ∧ u.pc = s.pc + 3 ∧ u.sp = s.sp ∧
      storesOnlyAt [s.sp - 1, s.sp - 2] s u) ∧
    (∀ k, ∃ t u, exec (.rst k) s = .next t ∧ exec .ret t = .next u ∧ u.pc = s.pc + 1 ∧ u.sp = s.sp) ∧
    (∀ q q', ∃ t u, exec (.pushPair q) s = .next t ∧ exec (.popPair q') t = .next u ∧ u.sp = s.sp ∧
      stackPairValue u q' = if q' = .af then stackPairValue s q &&& 0xFFF0 else stackPairValue s q)

/-! ### System (46_system.md) -/

/-- R260-R264: NOP, STOP, HALT, DI and EI. These rest on the spec's own decisions (92_eei_decisions.md): EI sets IME at once
(D10, log 16); STOP is two bytes, whose second is read by no rule (D12, log 9); HALT, with its refusal under
`refuse_when_pending` (D11, D9, logs 6 and 16). -/
def Obligations.SystemInstructions : Prop :=
  encodedAs [0x00] .nop ∧ (∀ s, exec .nop s = .next { s with pc := s.pc + 1 }) ∧
  (∀ b, encodedAs [0x10, b] .stop) ∧ (∀ s, exec .stop s = .next { s with pc := s.pc + 2, run := .stopped }) ∧
  encodedAs [0x76] .halt ∧
  (∀ s, (s.config.interruptPolicy = .ignore ∨ s.ie &&& Memory.get s.io 0x0F &&& 0x1F = 0 →
      exec .halt s = .next { s with pc := s.pc + 1, run := .halted }) ∧
    (s.config.interruptPolicy = .refuseWhenPending → s.ie &&& Memory.get s.io 0x0F &&& 0x1F ≠ 0 →
      exec .halt s = .refused .haltWithInterruptPending)) ∧
  encodedAs [0xF3] .di ∧ (∀ s, exec .di s = .next { s with ime := false, pc := s.pc + 1 }) ∧
  encodedAs [0xFB] .ei ∧ (∀ s, exec .ei s = .next { s with ime := true, pc := s.pc + 1 })

/-! ### Frames -/

/-- What the loads, the 16-bit operations, the jumps, the returns and the system instructions leave unchanged: they store no
byte anywhere. -/
def Obligations.LoadsTransfersAndSystemFrame : Prop :=
  (∀ dst src, frame (.ldRegReg dst src) [dst] [] false) ∧
  (∀ dst n, frame (.ldRegImm dst n) [dst] [] false) ∧
  (∀ dst, frame (.ldRegInd dst) [dst] [] false) ∧
  (∀ i ∈ [Instr.ldAIndBc, .ldAIndDe, .ldAIndC], frame i [.a] [] false) ∧
  (∀ nn, frame (.ldAIndNn nn) [.a] [] false) ∧
  (∀ n, frame (.ldhAIndN n) [.a] [] false) ∧
  (∀ i ∈ [Instr.ldAIndHlInc, .ldAIndHlDec], frame i [.a, .h, .l] [] false) ∧
  (∀ p nn, frame (.ldPairImm p nn) (cellsOf p) [] (p == .sp)) ∧
  frame .ldSpHl [] [] true ∧
  (∀ e, frame (.ldHlSpE e) [.h, .l] allFlags false) ∧
  (∀ e, frame (.addSpE e) [] allFlags true) ∧
  (∀ p, frame (.addHlPair p) [.h, .l] [.n, .h, .c] false) ∧
  (∀ p, frame (.incPair p) (cellsOf p) [] (p == .sp) ∧ frame (.decPair p) (cellsOf p) [] (p == .sp)) ∧
  frame (.popPair .bc) [.b, .c] [] true ∧ frame (.popPair .de) [.d, .e] [] true ∧ frame (.popPair .hl) [.h, .l] [] true ∧
  (∀ s t, exec .popAf s = .next t → regsSameBut [.a] s t ∧ controlSame s t ∧ storesNothing s t) ∧
  (∀ nn, frame (.jpNn nn) [] [] false) ∧ (∀ cc nn, frame (.jpCond cc nn) [] [] false) ∧ frame .jpHl [] [] false ∧
  (∀ e, frame (.jrE e) [] [] false) ∧ (∀ cc e, frame (.jrCond cc e) [] [] false) ∧
  frame .ret [] [] true ∧ (∀ cc, frame (.retCond cc) [] [] true) ∧
  frame .nop [] [] false ∧
  (∀ i ∈ [Instr.di, .ei, .reti], ∀ s t, exec i s = .next t →
    regsSameBut [] s t ∧ flagsSameBut [] s t ∧ (i ≠ .reti → t.sp = s.sp) ∧ t.run = s.run ∧ restSame s t ∧
      storesNothing s t) ∧
  (∀ i ∈ [Instr.halt, .stop], ∀ s t, exec i s = .next t →
    regsSameBut [] s t ∧ flagsSameBut [] s t ∧ t.sp = s.sp ∧ t.ime = s.ime ∧ restSame s t ∧ storesNothing s t)

/-- What the 8-bit arithmetic, the rotates and the bit operations leave unchanged where they store nothing. -/
def Obligations.ArithmeticFrame : Prop :=
  (∀ op src, frame (.aluReg op src) (if op = .cp then [] else [.a]) allFlags false) ∧
  (∀ op, frame (.aluInd op) (if op = .cp then [] else [.a]) allFlags false) ∧
  (∀ op n, frame (.aluImm op n) (if op = .cp then [] else [.a]) allFlags false) ∧
  (∀ r, frame (.incReg r) [r] [.z, .n, .h] false ∧ frame (.decReg r) [r] [.z, .n, .h] false) ∧
  frame .daa [.a] [.z, .h, .c] false ∧ frame .cpl [.a] [.n, .h] false ∧
  frame .scf [] [.n, .h, .c] false ∧ frame .ccf [] [.n, .h, .c] false ∧
  (∀ i ∈ [Instr.rlca, .rrca, .rla, .rra], frame i [.a] allFlags false) ∧
  (∀ op r, frame (.cbRot op (.reg r)) [r] allFlags false) ∧
  (∀ b t, frame (.cbBit b t) [] [.z, .n, .h] false) ∧
  (∀ b r, frame (.cbRes b (.reg r)) [r] [] false ∧ frame (.cbSet b (.reg r)) [r] [] false)

/-- What the storing instructions leave unchanged: every byte but those at the addresses they compute from the state before
them. -/
def Obligations.StoresFrame : Prop :=
  (∀ src, frameStoring (.ldIndReg src) (fun s => [hlAddress s]) [] [] false) ∧
  (∀ n, frameStoring (.ldIndHlN n) (fun s => [hlAddress s]) [] [] false) ∧
  frameStoring .ldIndBcA (fun s => [pair s .bc]) [] [] false ∧
  frameStoring .ldIndDeA (fun s => [pair s .de]) [] [] false ∧
  (∀ nn, frameStoring (.ldIndNnA nn) (fun _ => [nn]) [] [] false) ∧
  (∀ n, frameStoring (.ldhIndNA n) (fun _ => [highPage n]) [] [] false) ∧
  frameStoring .ldIndCA (fun s => [highPage s.c]) [] [] false ∧
  frameStoring .ldIndHlIncA (fun s => [hlAddress s]) [.h, .l] [] false ∧
  frameStoring .ldIndHlDecA (fun s => [hlAddress s]) [.h, .l] [] false ∧
  frameStoring .incIndHl (fun s => [hlAddress s]) [] [.z, .n, .h] false ∧
  frameStoring .decIndHl (fun s => [hlAddress s]) [] [.z, .n, .h] false ∧
  (∀ op, frameStoring (.cbRot op .indHl) (fun s => [hlAddress s]) [] allFlags false) ∧
  (∀ b, frameStoring (.cbRes b .indHl) (fun s => [hlAddress s]) [] [] false ∧
    frameStoring (.cbSet b .indHl) (fun s => [hlAddress s]) [] [] false) ∧
  (∀ nn, frameStoring (.ldIndNnSp nn) (fun _ => [nn, nn + 1]) [] [] false) ∧
  (∀ q, frameStoring (.pushPair q) (fun s => [s.sp - 1, s.sp - 2]) [] [] true) ∧
  (∀ nn, frameStoring (.callNn nn) (fun s => [s.sp - 1, s.sp - 2]) [] [] true) ∧
  (∀ cc nn, frameStoring (.callCond cc nn)
    (fun s => if condHolds s cc then [s.sp - 1, s.sp - 2] else []) [] [] true) ∧
  (∀ k, frameStoring (.rst k) (fun s => [s.sp - 1, s.sp - 2]) [] [] true)
end

