-- ==== Sys2Proof/Laws/Memory.lean ====
section
/-! SUPPORT. The byte stores: a read after a write, and that every operation on a store keeps its canonical form and its
size. -/

namespace Sys2Proof.Machine

/-! ### Reading after writing -/

theorem Memory.get_erase (m : Memory) (n n' : Nat) :
    Memory.get (Memory.erase m n) n' = if n' = n then Memory.unlisted else Memory.get m n' := by
  induction m with
  | nil => simp [Memory.erase, Memory.get]
  | cons cell m ih =>
    obtain ⟨k, w⟩ := cell
    by_cases hk : k = n
    · have : Memory.erase ((k, w) :: m) n = Memory.erase m n := by simp [Memory.erase, hk]
      rw [this, ih]
      by_cases hn : n' = n
      · simp [hn]
      · have : k ≠ n' := fun h => hn (by omega)
        simp [hn, Memory.get, this]
    · have : Memory.erase ((k, w) :: m) n = (k, w) :: Memory.erase m n := by simp [Memory.erase, hk]
      rw [this]
      by_cases hn : k = n'
      · have : n' ≠ n := fun h => hk (by omega)
        simp [Memory.get, hn, this]
      · simp [Memory.get, hn, ih]

theorem Memory.get_insert (m : Memory) (n n' : Nat) (v : Byte) :
    Memory.get (Memory.insert m n v) n' = if n' = n then v else Memory.get m n' := by
  induction m with
  | nil => simp [Memory.insert, Memory.get, eq_comm]
  | cons cell m ih =>
    obtain ⟨k, w⟩ := cell
    unfold Memory.insert
    by_cases hlt : n < k
    · rw [if_pos hlt]
      simp [Memory.get, eq_comm]
    · by_cases heq : n = k
      · subst heq
        rw [if_neg hlt, if_pos rfl]
        by_cases hn : n' = n
        · simp [Memory.get, hn]
        · simp [Memory.get, hn, Ne.symm hn]
      · rw [if_neg hlt, if_neg heq]
        by_cases hk : k = n'
        · have : n' ≠ n := by omega
          simp [Memory.get, hk, this]
        · simp [Memory.get, hk, ih]

/-- A read after a write gives the byte written at that offset and the old byte elsewhere. -/
theorem Memory.get_set (m : Memory) (n n' : Nat) (v : Byte) :
    Memory.get (Memory.set m n v) n' = if n' = n then v else Memory.get m n' := by
  unfold Memory.set
  split_ifs with hv <;> simp_all [Memory.get_erase, Memory.get_insert]

@[simp] theorem Memory.get_set_same (m : Memory) (n : Nat) (v : Byte) : Memory.get (Memory.set m n v) n = v := by
  simp [Memory.get_set]

theorem Memory.get_set_other (m : Memory) (n n' : Nat) (v : Byte) (h : n' ≠ n) :
    Memory.get (Memory.set m n v) n' = Memory.get m n' := by
  simp [Memory.get_set, h]

/-! ### The canonical form and the size -/

theorem Memory.mem_insert {m : Memory} {n : Nat} {v : Byte} {cell : Host.Cell}
    (h : cell ∈ Memory.insert m n v) : cell = (n, v) ∨ cell ∈ m := by
  induction m with
  | nil => simpa [Memory.insert] using h
  | cons head m ih =>
    obtain ⟨k, w⟩ := head
    unfold Memory.insert at h
    split_ifs at h
    · simpa using h
    · rcases List.mem_cons.mp h with h | h
      · exact .inl h
      · exact .inr (List.mem_cons_of_mem _ h)
    · rcases List.mem_cons.mp h with h | h
      · exact .inr (h ▸ List.mem_cons_self)
      · exact (ih h).imp_right (List.mem_cons_of_mem _)

theorem Memory.insert_pairwise {m : Memory} {n : Nat} {v : Byte}
    (h : m.Pairwise (fun x y => x.1 < y.1)) : (Memory.insert m n v).Pairwise (fun x y => x.1 < y.1) := by
  induction m with
  | nil => simp [Memory.insert]
  | cons head m ih =>
    obtain ⟨k, w⟩ := head
    obtain ⟨hhead, htail⟩ := List.pairwise_cons.mp h
    unfold Memory.insert
    split_ifs with hlt heq
    · refine List.pairwise_cons.mpr ⟨fun cell hc => ?_, h⟩
      rcases List.mem_cons.mp hc with hc | hc
      · simpa [hc] using hlt
      · exact hlt.trans (hhead cell hc)
    · exact List.pairwise_cons.mpr ⟨fun cell hc => heq ▸ hhead cell hc, htail⟩
    · refine List.pairwise_cons.mpr ⟨fun cell hc => ?_, ih htail⟩
      rcases Memory.mem_insert hc with hc | hc
      · simp only [hc]; omega
      · exact hhead cell hc

theorem Memory.set_wf {m : Memory} (n : Nat) (v : Byte) (h : Memory.wf m) : Memory.wf (Memory.set m n v) := by
  unfold Memory.set
  split_ifs with hv
  · exact ⟨h.1.filter _, fun cell hc => h.2 cell (List.mem_of_mem_filter hc)⟩
  · refine ⟨Memory.insert_pairwise h.1, fun cell hc => ?_⟩
    rcases Memory.mem_insert hc with hc | hc
    · simpa [hc] using hv
    · exact h.2 cell hc

theorem Memory.set_below {m : Memory} {size n : Nat} (v : Byte) (h : Memory.below m size) (hn : n < size) :
    Memory.below (Memory.set m n v) size := by
  intro cell hc
  unfold Memory.set at hc
  split_ifs at hc
  · exact h cell (List.mem_of_mem_filter hc)
  · rcases Memory.mem_insert hc with hc | hc
    · simpa [hc] using hn
    · exact h cell hc

theorem Memory.nil_good (size : Nat) : Memory.Good [] size :=
  ⟨⟨List.Pairwise.nil, by simp⟩, by simp [Memory.below]⟩

/-- A write keeps a store canonical and inside its size. -/
theorem Memory.set_good {m : Memory} {size n : Nat} (v : Byte) (h : Memory.Good m size) (hn : n < size) :
    Memory.Good (Memory.set m n v) size :=
  ⟨Memory.set_wf n v h.canonical, Memory.set_below v h.inside hn⟩

/-- Any cells, restricted to a store's size, are a good store. -/
theorem Memory.restrict_good (m : Memory) (size : Nat) : Memory.Good (Memory.restrict m size) size := by
  induction m with
  | nil => exact Memory.nil_good size
  | cons cell m ih =>
    unfold Memory.restrict
    split_ifs with h
    · exact Memory.set_good _ ih h
    · exact ih

/-- A restricted store reads as its cells do, inside its size. -/
theorem Memory.get_restrict (m : Memory) (size n : Nat) :
    Memory.get (Memory.restrict m size) n = if n < size then Memory.get m n else Memory.unlisted := by
  induction m with
  | nil => simp [Memory.restrict, Memory.get]
  | cons cell m ih =>
    obtain ⟨k, v⟩ := cell
    unfold Memory.restrict
    by_cases he : k = n
    · subst he
      split_ifs with hk
      · simp [Memory.get]
      · rw [ih, if_neg hk]
    · have hne : n ≠ k := Ne.symm he
      split_ifs <;> simp_all [Memory.get, Memory.get_set]

/-- In canonical form, equal bytes everywhere make equal stores. -/
theorem Memory.ext_of_wf {m m' : Memory} (h : Memory.wf m) (h' : Memory.wf m')
    (hget : ∀ n, Memory.get m n = Memory.get m' n) : m = m' := by
  have get_none : ∀ {m : Memory} {n : Nat}, (∀ cell ∈ m, n < cell.1) → Memory.get m n = Memory.unlisted := by
    intro m n
    induction m with
    | nil => intro _; rfl
    | cons cell m ih =>
      intro hall
      have hne : cell.1 ≠ n := by have := hall cell List.mem_cons_self; omega
      simp only [Memory.get, hne, if_false]
      exact ih fun c hc => hall c (List.mem_cons_of_mem _ hc)
  induction m generalizing m' with
  | nil =>
    cases m' with
    | nil => rfl
    | cons cell m' =>
      have := hget cell.1
      simp only [Memory.get, if_true] at this
      exact absurd this.symm (h'.2 cell List.mem_cons_self)
  | cons cell m ih =>
    obtain ⟨hlt, hrest⟩ := List.pairwise_cons.mp h.1
    cases m' with
    | nil =>
      have := hget cell.1
      simp only [Memory.get, if_true] at this
      exact absurd this (h.2 cell List.mem_cons_self)
    | cons cell' m' =>
      obtain ⟨hlt', hrest'⟩ := List.pairwise_cons.mp h'.1
      have hkey : cell.1 = cell'.1 := by
        rcases Nat.lt_trichotomy cell.1 cell'.1 with hc | hc | hc
        · have h1 := hget cell.1
          rw [get_none (m := cell' :: m')] at h1
          · simp only [Memory.get, if_true] at h1
            exact absurd h1 (h.2 cell List.mem_cons_self)
          · intro c hcm
            rcases List.mem_cons.mp hcm with rfl | hcm
            · exact hc
            · exact hc.trans (hlt' c hcm)
        · exact hc
        · have h1 := hget cell'.1
          rw [get_none (m := cell :: m)] at h1
          · simp only [Memory.get, if_true] at h1
            exact absurd h1.symm (h'.2 cell' List.mem_cons_self)
          · intro c hcm
            rcases List.mem_cons.mp hcm with rfl | hcm
            · exact hc
            · exact hc.trans (hlt c hcm)
      have hval : cell.2 = cell'.2 := by
        have h1 := hget cell.1
        simpa [Memory.get, hkey] using h1
      have hcell : cell = cell' := Prod.ext hkey hval
      subst hcell
      congr 1
      refine ih ⟨hrest, fun c hc => h.2 c (List.mem_cons_of_mem _ hc)⟩
        ⟨hrest', fun c hc => h'.2 c (List.mem_cons_of_mem _ hc)⟩ fun n => ?_
      have h1 := hget n
      by_cases hn : cell.1 = n
      · rw [get_none (m := m) fun c hc => hn ▸ hlt c hc, get_none (m := m') fun c hc => hn ▸ hlt' c hc]
      · simpa [Memory.get, hn] using h1

end Sys2Proof.Machine
end

