-- ==== Sys2Proof/Laws/State.lean ====
section
/-! SUPPORT. One lemma per field per named update of the state, so that no proof unfolds a record update; then reading a
register, a pair, a flag or a byte through those updates. -/

namespace Sys2Proof.Machine

/-! `setPc` -/

@[simp] theorem setPc_a (s : State) (v : Word) : (setPc s v).a = s.a := rfl
@[simp] theorem setPc_f (s : State) (v : Word) : (setPc s v).f = s.f := rfl
@[simp] theorem setPc_b (s : State) (v : Word) : (setPc s v).b = s.b := rfl
@[simp] theorem setPc_c (s : State) (v : Word) : (setPc s v).c = s.c := rfl
@[simp] theorem setPc_d (s : State) (v : Word) : (setPc s v).d = s.d := rfl
@[simp] theorem setPc_e (s : State) (v : Word) : (setPc s v).e = s.e := rfl
@[simp] theorem setPc_h (s : State) (v : Word) : (setPc s v).h = s.h := rfl
@[simp] theorem setPc_l (s : State) (v : Word) : (setPc s v).l = s.l := rfl
@[simp] theorem setPc_sp (s : State) (v : Word) : (setPc s v).sp = s.sp := rfl
@[simp] theorem setPc_pc (s : State) (v : Word) : (setPc s v).pc = v := rfl
@[simp] theorem setPc_ime (s : State) (v : Word) : (setPc s v).ime = s.ime := rfl
@[simp] theorem setPc_currentOp (s : State) (v : Word) : (setPc s v).currentOp = s.currentOp := rfl
@[simp] theorem setPc_run (s : State) (v : Word) : (setPc s v).run = s.run := rfl
@[simp] theorem setPc_fault (s : State) (v : Word) : (setPc s v).fault = s.fault := rfl
@[simp] theorem setPc_ramEnabled (s : State) (v : Word) : (setPc s v).ramEnabled = s.ramEnabled := rfl
@[simp] theorem setPc_activeRomBank (s : State) (v : Word) : (setPc s v).activeRomBank = s.activeRomBank := rfl
@[simp] theorem setPc_activeRamBank (s : State) (v : Word) : (setPc s v).activeRamBank = s.activeRamBank := rfl
@[simp] theorem setPc_bankingMode (s : State) (v : Word) : (setPc s v).bankingMode = s.bankingMode := rfl
@[simp] theorem setPc_rom (s : State) (v : Word) : (setPc s v).rom = s.rom := rfl
@[simp] theorem setPc_cram (s : State) (v : Word) : (setPc s v).cram = s.cram := rfl
@[simp] theorem setPc_vram (s : State) (v : Word) : (setPc s v).vram = s.vram := rfl
@[simp] theorem setPc_wram (s : State) (v : Word) : (setPc s v).wram = s.wram := rfl
@[simp] theorem setPc_oam (s : State) (v : Word) : (setPc s v).oam = s.oam := rfl
@[simp] theorem setPc_io (s : State) (v : Word) : (setPc s v).io = s.io := rfl
@[simp] theorem setPc_hram (s : State) (v : Word) : (setPc s v).hram = s.hram := rfl
@[simp] theorem setPc_ie (s : State) (v : Word) : (setPc s v).ie = s.ie := rfl
@[simp] theorem setPc_config (s : State) (v : Word) : (setPc s v).config = s.config := rfl

/-! `setSp` -/

@[simp] theorem setSp_a (s : State) (v : Word) : (setSp s v).a = s.a := rfl
@[simp] theorem setSp_f (s : State) (v : Word) : (setSp s v).f = s.f := rfl
@[simp] theorem setSp_b (s : State) (v : Word) : (setSp s v).b = s.b := rfl
@[simp] theorem setSp_c (s : State) (v : Word) : (setSp s v).c = s.c := rfl
@[simp] theorem setSp_d (s : State) (v : Word) : (setSp s v).d = s.d := rfl
@[simp] theorem setSp_e (s : State) (v : Word) : (setSp s v).e = s.e := rfl
@[simp] theorem setSp_h (s : State) (v : Word) : (setSp s v).h = s.h := rfl
@[simp] theorem setSp_l (s : State) (v : Word) : (setSp s v).l = s.l := rfl
@[simp] theorem setSp_sp (s : State) (v : Word) : (setSp s v).sp = v := rfl
@[simp] theorem setSp_pc (s : State) (v : Word) : (setSp s v).pc = s.pc := rfl
@[simp] theorem setSp_ime (s : State) (v : Word) : (setSp s v).ime = s.ime := rfl
@[simp] theorem setSp_currentOp (s : State) (v : Word) : (setSp s v).currentOp = s.currentOp := rfl
@[simp] theorem setSp_run (s : State) (v : Word) : (setSp s v).run = s.run := rfl
@[simp] theorem setSp_fault (s : State) (v : Word) : (setSp s v).fault = s.fault := rfl
@[simp] theorem setSp_ramEnabled (s : State) (v : Word) : (setSp s v).ramEnabled = s.ramEnabled := rfl
@[simp] theorem setSp_activeRomBank (s : State) (v : Word) : (setSp s v).activeRomBank = s.activeRomBank := rfl
@[simp] theorem setSp_activeRamBank (s : State) (v : Word) : (setSp s v).activeRamBank = s.activeRamBank := rfl
@[simp] theorem setSp_bankingMode (s : State) (v : Word) : (setSp s v).bankingMode = s.bankingMode := rfl
@[simp] theorem setSp_rom (s : State) (v : Word) : (setSp s v).rom = s.rom := rfl
@[simp] theorem setSp_cram (s : State) (v : Word) : (setSp s v).cram = s.cram := rfl
@[simp] theorem setSp_vram (s : State) (v : Word) : (setSp s v).vram = s.vram := rfl
@[simp] theorem setSp_wram (s : State) (v : Word) : (setSp s v).wram = s.wram := rfl
@[simp] theorem setSp_oam (s : State) (v : Word) : (setSp s v).oam = s.oam := rfl
@[simp] theorem setSp_io (s : State) (v : Word) : (setSp s v).io = s.io := rfl
@[simp] theorem setSp_hram (s : State) (v : Word) : (setSp s v).hram = s.hram := rfl
@[simp] theorem setSp_ie (s : State) (v : Word) : (setSp s v).ie = s.ie := rfl
@[simp] theorem setSp_config (s : State) (v : Word) : (setSp s v).config = s.config := rfl

/-! `setIme` -/

@[simp] theorem setIme_a (s : State) (on : Bool) : (setIme s on).a = s.a := rfl
@[simp] theorem setIme_f (s : State) (on : Bool) : (setIme s on).f = s.f := rfl
@[simp] theorem setIme_b (s : State) (on : Bool) : (setIme s on).b = s.b := rfl
@[simp] theorem setIme_c (s : State) (on : Bool) : (setIme s on).c = s.c := rfl
@[simp] theorem setIme_d (s : State) (on : Bool) : (setIme s on).d = s.d := rfl
@[simp] theorem setIme_e (s : State) (on : Bool) : (setIme s on).e = s.e := rfl
@[simp] theorem setIme_h (s : State) (on : Bool) : (setIme s on).h = s.h := rfl
@[simp] theorem setIme_l (s : State) (on : Bool) : (setIme s on).l = s.l := rfl
@[simp] theorem setIme_sp (s : State) (on : Bool) : (setIme s on).sp = s.sp := rfl
@[simp] theorem setIme_pc (s : State) (on : Bool) : (setIme s on).pc = s.pc := rfl
@[simp] theorem setIme_ime (s : State) (on : Bool) : (setIme s on).ime = on := rfl
@[simp] theorem setIme_currentOp (s : State) (on : Bool) : (setIme s on).currentOp = s.currentOp := rfl
@[simp] theorem setIme_run (s : State) (on : Bool) : (setIme s on).run = s.run := rfl
@[simp] theorem setIme_fault (s : State) (on : Bool) : (setIme s on).fault = s.fault := rfl
@[simp] theorem setIme_ramEnabled (s : State) (on : Bool) : (setIme s on).ramEnabled = s.ramEnabled := rfl
@[simp] theorem setIme_activeRomBank (s : State) (on : Bool) : (setIme s on).activeRomBank = s.activeRomBank := rfl
@[simp] theorem setIme_activeRamBank (s : State) (on : Bool) : (setIme s on).activeRamBank = s.activeRamBank := rfl
@[simp] theorem setIme_bankingMode (s : State) (on : Bool) : (setIme s on).bankingMode = s.bankingMode := rfl
@[simp] theorem setIme_rom (s : State) (on : Bool) : (setIme s on).rom = s.rom := rfl
@[simp] theorem setIme_cram (s : State) (on : Bool) : (setIme s on).cram = s.cram := rfl
@[simp] theorem setIme_vram (s : State) (on : Bool) : (setIme s on).vram = s.vram := rfl
@[simp] theorem setIme_wram (s : State) (on : Bool) : (setIme s on).wram = s.wram := rfl
@[simp] theorem setIme_oam (s : State) (on : Bool) : (setIme s on).oam = s.oam := rfl
@[simp] theorem setIme_io (s : State) (on : Bool) : (setIme s on).io = s.io := rfl
@[simp] theorem setIme_hram (s : State) (on : Bool) : (setIme s on).hram = s.hram := rfl
@[simp] theorem setIme_ie (s : State) (on : Bool) : (setIme s on).ie = s.ie := rfl
@[simp] theorem setIme_config (s : State) (on : Bool) : (setIme s on).config = s.config := rfl

/-! `setRun` -/

@[simp] theorem setRun_a (s : State) (r : RunState) : (setRun s r).a = s.a := rfl
@[simp] theorem setRun_f (s : State) (r : RunState) : (setRun s r).f = s.f := rfl
@[simp] theorem setRun_b (s : State) (r : RunState) : (setRun s r).b = s.b := rfl
@[simp] theorem setRun_c (s : State) (r : RunState) : (setRun s r).c = s.c := rfl
@[simp] theorem setRun_d (s : State) (r : RunState) : (setRun s r).d = s.d := rfl
@[simp] theorem setRun_e (s : State) (r : RunState) : (setRun s r).e = s.e := rfl
@[simp] theorem setRun_h (s : State) (r : RunState) : (setRun s r).h = s.h := rfl
@[simp] theorem setRun_l (s : State) (r : RunState) : (setRun s r).l = s.l := rfl
@[simp] theorem setRun_sp (s : State) (r : RunState) : (setRun s r).sp = s.sp := rfl
@[simp] theorem setRun_pc (s : State) (r : RunState) : (setRun s r).pc = s.pc := rfl
@[simp] theorem setRun_ime (s : State) (r : RunState) : (setRun s r).ime = s.ime := rfl
@[simp] theorem setRun_currentOp (s : State) (r : RunState) : (setRun s r).currentOp = s.currentOp := rfl
@[simp] theorem setRun_run (s : State) (r : RunState) : (setRun s r).run = r := rfl
@[simp] theorem setRun_fault (s : State) (r : RunState) : (setRun s r).fault = s.fault := rfl
@[simp] theorem setRun_ramEnabled (s : State) (r : RunState) : (setRun s r).ramEnabled = s.ramEnabled := rfl
@[simp] theorem setRun_activeRomBank (s : State) (r : RunState) : (setRun s r).activeRomBank = s.activeRomBank := rfl
@[simp] theorem setRun_activeRamBank (s : State) (r : RunState) : (setRun s r).activeRamBank = s.activeRamBank := rfl
@[simp] theorem setRun_bankingMode (s : State) (r : RunState) : (setRun s r).bankingMode = s.bankingMode := rfl
@[simp] theorem setRun_rom (s : State) (r : RunState) : (setRun s r).rom = s.rom := rfl
@[simp] theorem setRun_cram (s : State) (r : RunState) : (setRun s r).cram = s.cram := rfl
@[simp] theorem setRun_vram (s : State) (r : RunState) : (setRun s r).vram = s.vram := rfl
@[simp] theorem setRun_wram (s : State) (r : RunState) : (setRun s r).wram = s.wram := rfl
@[simp] theorem setRun_oam (s : State) (r : RunState) : (setRun s r).oam = s.oam := rfl
@[simp] theorem setRun_io (s : State) (r : RunState) : (setRun s r).io = s.io := rfl
@[simp] theorem setRun_hram (s : State) (r : RunState) : (setRun s r).hram = s.hram := rfl
@[simp] theorem setRun_ie (s : State) (r : RunState) : (setRun s r).ie = s.ie := rfl
@[simp] theorem setRun_config (s : State) (r : RunState) : (setRun s r).config = s.config := rfl

/-! `setCurrentOp` -/

@[simp] theorem setCurrentOp_a (s : State) (op : Byte) : (setCurrentOp s op).a = s.a := rfl
@[simp] theorem setCurrentOp_f (s : State) (op : Byte) : (setCurrentOp s op).f = s.f := rfl
@[simp] theorem setCurrentOp_b (s : State) (op : Byte) : (setCurrentOp s op).b = s.b := rfl
@[simp] theorem setCurrentOp_c (s : State) (op : Byte) : (setCurrentOp s op).c = s.c := rfl
@[simp] theorem setCurrentOp_d (s : State) (op : Byte) : (setCurrentOp s op).d = s.d := rfl
@[simp] theorem setCurrentOp_e (s : State) (op : Byte) : (setCurrentOp s op).e = s.e := rfl
@[simp] theorem setCurrentOp_h (s : State) (op : Byte) : (setCurrentOp s op).h = s.h := rfl
@[simp] theorem setCurrentOp_l (s : State) (op : Byte) : (setCurrentOp s op).l = s.l := rfl
@[simp] theorem setCurrentOp_sp (s : State) (op : Byte) : (setCurrentOp s op).sp = s.sp := rfl
@[simp] theorem setCurrentOp_pc (s : State) (op : Byte) : (setCurrentOp s op).pc = s.pc := rfl
@[simp] theorem setCurrentOp_ime (s : State) (op : Byte) : (setCurrentOp s op).ime = s.ime := rfl
@[simp] theorem setCurrentOp_currentOp (s : State) (op : Byte) : (setCurrentOp s op).currentOp = op := rfl
@[simp] theorem setCurrentOp_run (s : State) (op : Byte) : (setCurrentOp s op).run = s.run := rfl
@[simp] theorem setCurrentOp_fault (s : State) (op : Byte) : (setCurrentOp s op).fault = s.fault := rfl
@[simp] theorem setCurrentOp_ramEnabled (s : State) (op : Byte) : (setCurrentOp s op).ramEnabled = s.ramEnabled := rfl
@[simp] theorem setCurrentOp_activeRomBank (s : State) (op : Byte) : (setCurrentOp s op).activeRomBank = s.activeRomBank := rfl
@[simp] theorem setCurrentOp_activeRamBank (s : State) (op : Byte) : (setCurrentOp s op).activeRamBank = s.activeRamBank := rfl
@[simp] theorem setCurrentOp_bankingMode (s : State) (op : Byte) : (setCurrentOp s op).bankingMode = s.bankingMode := rfl
@[simp] theorem setCurrentOp_rom (s : State) (op : Byte) : (setCurrentOp s op).rom = s.rom := rfl
@[simp] theorem setCurrentOp_cram (s : State) (op : Byte) : (setCurrentOp s op).cram = s.cram := rfl
@[simp] theorem setCurrentOp_vram (s : State) (op : Byte) : (setCurrentOp s op).vram = s.vram := rfl
@[simp] theorem setCurrentOp_wram (s : State) (op : Byte) : (setCurrentOp s op).wram = s.wram := rfl
@[simp] theorem setCurrentOp_oam (s : State) (op : Byte) : (setCurrentOp s op).oam = s.oam := rfl
@[simp] theorem setCurrentOp_io (s : State) (op : Byte) : (setCurrentOp s op).io = s.io := rfl
@[simp] theorem setCurrentOp_hram (s : State) (op : Byte) : (setCurrentOp s op).hram = s.hram := rfl
@[simp] theorem setCurrentOp_ie (s : State) (op : Byte) : (setCurrentOp s op).ie = s.ie := rfl
@[simp] theorem setCurrentOp_config (s : State) (op : Byte) : (setCurrentOp s op).config = s.config := rfl

/-! `advance` -/

@[simp] theorem advance_a (s : State) (n : Word) : (advance s n).a = s.a := rfl
@[simp] theorem advance_f (s : State) (n : Word) : (advance s n).f = s.f := rfl
@[simp] theorem advance_b (s : State) (n : Word) : (advance s n).b = s.b := rfl
@[simp] theorem advance_c (s : State) (n : Word) : (advance s n).c = s.c := rfl
@[simp] theorem advance_d (s : State) (n : Word) : (advance s n).d = s.d := rfl
@[simp] theorem advance_e (s : State) (n : Word) : (advance s n).e = s.e := rfl
@[simp] theorem advance_h (s : State) (n : Word) : (advance s n).h = s.h := rfl
@[simp] theorem advance_l (s : State) (n : Word) : (advance s n).l = s.l := rfl
@[simp] theorem advance_sp (s : State) (n : Word) : (advance s n).sp = s.sp := rfl
@[simp] theorem advance_pc (s : State) (n : Word) : (advance s n).pc = s.pc + n := rfl
@[simp] theorem advance_ime (s : State) (n : Word) : (advance s n).ime = s.ime := rfl
@[simp] theorem advance_currentOp (s : State) (n : Word) : (advance s n).currentOp = s.currentOp := rfl
@[simp] theorem advance_run (s : State) (n : Word) : (advance s n).run = s.run := rfl
@[simp] theorem advance_fault (s : State) (n : Word) : (advance s n).fault = s.fault := rfl
@[simp] theorem advance_ramEnabled (s : State) (n : Word) : (advance s n).ramEnabled = s.ramEnabled := rfl
@[simp] theorem advance_activeRomBank (s : State) (n : Word) : (advance s n).activeRomBank = s.activeRomBank := rfl
@[simp] theorem advance_activeRamBank (s : State) (n : Word) : (advance s n).activeRamBank = s.activeRamBank := rfl
@[simp] theorem advance_bankingMode (s : State) (n : Word) : (advance s n).bankingMode = s.bankingMode := rfl
@[simp] theorem advance_rom (s : State) (n : Word) : (advance s n).rom = s.rom := rfl
@[simp] theorem advance_cram (s : State) (n : Word) : (advance s n).cram = s.cram := rfl
@[simp] theorem advance_vram (s : State) (n : Word) : (advance s n).vram = s.vram := rfl
@[simp] theorem advance_wram (s : State) (n : Word) : (advance s n).wram = s.wram := rfl
@[simp] theorem advance_oam (s : State) (n : Word) : (advance s n).oam = s.oam := rfl
@[simp] theorem advance_io (s : State) (n : Word) : (advance s n).io = s.io := rfl
@[simp] theorem advance_hram (s : State) (n : Word) : (advance s n).hram = s.hram := rfl
@[simp] theorem advance_ie (s : State) (n : Word) : (advance s n).ie = s.ie := rfl
@[simp] theorem advance_config (s : State) (n : Word) : (advance s n).config = s.config := rfl

/-! `setF` -/

@[simp] theorem setF_a (s : State) (v : Byte) : (setF s v).a = s.a := rfl
@[simp] theorem setF_f (s : State) (v : Byte) : (setF s v).f = v &&& 0xF0 := rfl
@[simp] theorem setF_b (s : State) (v : Byte) : (setF s v).b = s.b := rfl
@[simp] theorem setF_c (s : State) (v : Byte) : (setF s v).c = s.c := rfl
@[simp] theorem setF_d (s : State) (v : Byte) : (setF s v).d = s.d := rfl
@[simp] theorem setF_e (s : State) (v : Byte) : (setF s v).e = s.e := rfl
@[simp] theorem setF_h (s : State) (v : Byte) : (setF s v).h = s.h := rfl
@[simp] theorem setF_l (s : State) (v : Byte) : (setF s v).l = s.l := rfl
@[simp] theorem setF_sp (s : State) (v : Byte) : (setF s v).sp = s.sp := rfl
@[simp] theorem setF_pc (s : State) (v : Byte) : (setF s v).pc = s.pc := rfl
@[simp] theorem setF_ime (s : State) (v : Byte) : (setF s v).ime = s.ime := rfl
@[simp] theorem setF_currentOp (s : State) (v : Byte) : (setF s v).currentOp = s.currentOp := rfl
@[simp] theorem setF_run (s : State) (v : Byte) : (setF s v).run = s.run := rfl
@[simp] theorem setF_fault (s : State) (v : Byte) : (setF s v).fault = s.fault := rfl
@[simp] theorem setF_ramEnabled (s : State) (v : Byte) : (setF s v).ramEnabled = s.ramEnabled := rfl
@[simp] theorem setF_activeRomBank (s : State) (v : Byte) : (setF s v).activeRomBank = s.activeRomBank := rfl
@[simp] theorem setF_activeRamBank (s : State) (v : Byte) : (setF s v).activeRamBank = s.activeRamBank := rfl
@[simp] theorem setF_bankingMode (s : State) (v : Byte) : (setF s v).bankingMode = s.bankingMode := rfl
@[simp] theorem setF_rom (s : State) (v : Byte) : (setF s v).rom = s.rom := rfl
@[simp] theorem setF_cram (s : State) (v : Byte) : (setF s v).cram = s.cram := rfl
@[simp] theorem setF_vram (s : State) (v : Byte) : (setF s v).vram = s.vram := rfl
@[simp] theorem setF_wram (s : State) (v : Byte) : (setF s v).wram = s.wram := rfl
@[simp] theorem setF_oam (s : State) (v : Byte) : (setF s v).oam = s.oam := rfl
@[simp] theorem setF_io (s : State) (v : Byte) : (setF s v).io = s.io := rfl
@[simp] theorem setF_hram (s : State) (v : Byte) : (setF s v).hram = s.hram := rfl
@[simp] theorem setF_ie (s : State) (v : Byte) : (setF s v).ie = s.ie := rfl
@[simp] theorem setF_config (s : State) (v : Byte) : (setF s v).config = s.config := rfl

/-! `withFlags` -/

@[simp] theorem withFlags_a (s : State) (u : FlagUpdate) : (withFlags s u).a = s.a := rfl
@[simp] theorem withFlags_f (s : State) (u : FlagUpdate) : (withFlags s u).f = updateFlags s.f u := rfl
@[simp] theorem withFlags_b (s : State) (u : FlagUpdate) : (withFlags s u).b = s.b := rfl
@[simp] theorem withFlags_c (s : State) (u : FlagUpdate) : (withFlags s u).c = s.c := rfl
@[simp] theorem withFlags_d (s : State) (u : FlagUpdate) : (withFlags s u).d = s.d := rfl
@[simp] theorem withFlags_e (s : State) (u : FlagUpdate) : (withFlags s u).e = s.e := rfl
@[simp] theorem withFlags_h (s : State) (u : FlagUpdate) : (withFlags s u).h = s.h := rfl
@[simp] theorem withFlags_l (s : State) (u : FlagUpdate) : (withFlags s u).l = s.l := rfl
@[simp] theorem withFlags_sp (s : State) (u : FlagUpdate) : (withFlags s u).sp = s.sp := rfl
@[simp] theorem withFlags_pc (s : State) (u : FlagUpdate) : (withFlags s u).pc = s.pc := rfl
@[simp] theorem withFlags_ime (s : State) (u : FlagUpdate) : (withFlags s u).ime = s.ime := rfl
@[simp] theorem withFlags_currentOp (s : State) (u : FlagUpdate) : (withFlags s u).currentOp = s.currentOp := rfl
@[simp] theorem withFlags_run (s : State) (u : FlagUpdate) : (withFlags s u).run = s.run := rfl
@[simp] theorem withFlags_fault (s : State) (u : FlagUpdate) : (withFlags s u).fault = s.fault := rfl
@[simp] theorem withFlags_ramEnabled (s : State) (u : FlagUpdate) : (withFlags s u).ramEnabled = s.ramEnabled := rfl
@[simp] theorem withFlags_activeRomBank (s : State) (u : FlagUpdate) : (withFlags s u).activeRomBank = s.activeRomBank := rfl
@[simp] theorem withFlags_activeRamBank (s : State) (u : FlagUpdate) : (withFlags s u).activeRamBank = s.activeRamBank := rfl
@[simp] theorem withFlags_bankingMode (s : State) (u : FlagUpdate) : (withFlags s u).bankingMode = s.bankingMode := rfl
@[simp] theorem withFlags_rom (s : State) (u : FlagUpdate) : (withFlags s u).rom = s.rom := rfl
@[simp] theorem withFlags_cram (s : State) (u : FlagUpdate) : (withFlags s u).cram = s.cram := rfl
@[simp] theorem withFlags_vram (s : State) (u : FlagUpdate) : (withFlags s u).vram = s.vram := rfl
@[simp] theorem withFlags_wram (s : State) (u : FlagUpdate) : (withFlags s u).wram = s.wram := rfl
@[simp] theorem withFlags_oam (s : State) (u : FlagUpdate) : (withFlags s u).oam = s.oam := rfl
@[simp] theorem withFlags_io (s : State) (u : FlagUpdate) : (withFlags s u).io = s.io := rfl
@[simp] theorem withFlags_hram (s : State) (u : FlagUpdate) : (withFlags s u).hram = s.hram := rfl
@[simp] theorem withFlags_ie (s : State) (u : FlagUpdate) : (withFlags s u).ie = s.ie := rfl
@[simp] theorem withFlags_config (s : State) (u : FlagUpdate) : (withFlags s u).config = s.config := rfl

/-! `setReg8` -/

@[simp] theorem setReg8_f (s : State) (r : Reg8) (v : Byte) : (setReg8 s r v).f = s.f := by cases r <;> rfl
@[simp] theorem setReg8_sp (s : State) (r : Reg8) (v : Byte) : (setReg8 s r v).sp = s.sp := by cases r <;> rfl
@[simp] theorem setReg8_pc (s : State) (r : Reg8) (v : Byte) : (setReg8 s r v).pc = s.pc := by cases r <;> rfl
@[simp] theorem setReg8_ime (s : State) (r : Reg8) (v : Byte) : (setReg8 s r v).ime = s.ime := by cases r <;> rfl
@[simp] theorem setReg8_currentOp (s : State) (r : Reg8) (v : Byte) : (setReg8 s r v).currentOp = s.currentOp := by cases r <;> rfl
@[simp] theorem setReg8_run (s : State) (r : Reg8) (v : Byte) : (setReg8 s r v).run = s.run := by cases r <;> rfl
@[simp] theorem setReg8_fault (s : State) (r : Reg8) (v : Byte) : (setReg8 s r v).fault = s.fault := by cases r <;> rfl
@[simp] theorem setReg8_ramEnabled (s : State) (r : Reg8) (v : Byte) : (setReg8 s r v).ramEnabled = s.ramEnabled := by cases r <;> rfl
@[simp] theorem setReg8_activeRomBank (s : State) (r : Reg8) (v : Byte) : (setReg8 s r v).activeRomBank = s.activeRomBank := by cases r <;> rfl
@[simp] theorem setReg8_activeRamBank (s : State) (r : Reg8) (v : Byte) : (setReg8 s r v).activeRamBank = s.activeRamBank := by cases r <;> rfl
@[simp] theorem setReg8_bankingMode (s : State) (r : Reg8) (v : Byte) : (setReg8 s r v).bankingMode = s.bankingMode := by cases r <;> rfl
@[simp] theorem setReg8_rom (s : State) (r : Reg8) (v : Byte) : (setReg8 s r v).rom = s.rom := by cases r <;> rfl
@[simp] theorem setReg8_cram (s : State) (r : Reg8) (v : Byte) : (setReg8 s r v).cram = s.cram := by cases r <;> rfl
@[simp] theorem setReg8_vram (s : State) (r : Reg8) (v : Byte) : (setReg8 s r v).vram = s.vram := by cases r <;> rfl
@[simp] theorem setReg8_wram (s : State) (r : Reg8) (v : Byte) : (setReg8 s r v).wram = s.wram := by cases r <;> rfl
@[simp] theorem setReg8_oam (s : State) (r : Reg8) (v : Byte) : (setReg8 s r v).oam = s.oam := by cases r <;> rfl
@[simp] theorem setReg8_io (s : State) (r : Reg8) (v : Byte) : (setReg8 s r v).io = s.io := by cases r <;> rfl
@[simp] theorem setReg8_hram (s : State) (r : Reg8) (v : Byte) : (setReg8 s r v).hram = s.hram := by cases r <;> rfl
@[simp] theorem setReg8_ie (s : State) (r : Reg8) (v : Byte) : (setReg8 s r v).ie = s.ie := by cases r <;> rfl
@[simp] theorem setReg8_config (s : State) (r : Reg8) (v : Byte) : (setReg8 s r v).config = s.config := by cases r <;> rfl

/-! `setPair` -/

@[simp] theorem setPair_f (s : State) (p : Pair) (v : Word) : (setPair s p v).f = s.f := by cases p <;> rfl
@[simp] theorem setPair_pc (s : State) (p : Pair) (v : Word) : (setPair s p v).pc = s.pc := by cases p <;> rfl
@[simp] theorem setPair_ime (s : State) (p : Pair) (v : Word) : (setPair s p v).ime = s.ime := by cases p <;> rfl
@[simp] theorem setPair_currentOp (s : State) (p : Pair) (v : Word) : (setPair s p v).currentOp = s.currentOp := by cases p <;> rfl
@[simp] theorem setPair_run (s : State) (p : Pair) (v : Word) : (setPair s p v).run = s.run := by cases p <;> rfl
@[simp] theorem setPair_fault (s : State) (p : Pair) (v : Word) : (setPair s p v).fault = s.fault := by cases p <;> rfl
@[simp] theorem setPair_ramEnabled (s : State) (p : Pair) (v : Word) : (setPair s p v).ramEnabled = s.ramEnabled := by cases p <;> rfl
@[simp] theorem setPair_activeRomBank (s : State) (p : Pair) (v : Word) : (setPair s p v).activeRomBank = s.activeRomBank := by cases p <;> rfl
@[simp] theorem setPair_activeRamBank (s : State) (p : Pair) (v : Word) : (setPair s p v).activeRamBank = s.activeRamBank := by cases p <;> rfl
@[simp] theorem setPair_bankingMode (s : State) (p : Pair) (v : Word) : (setPair s p v).bankingMode = s.bankingMode := by cases p <;> rfl
@[simp] theorem setPair_rom (s : State) (p : Pair) (v : Word) : (setPair s p v).rom = s.rom := by cases p <;> rfl
@[simp] theorem setPair_cram (s : State) (p : Pair) (v : Word) : (setPair s p v).cram = s.cram := by cases p <;> rfl
@[simp] theorem setPair_vram (s : State) (p : Pair) (v : Word) : (setPair s p v).vram = s.vram := by cases p <;> rfl
@[simp] theorem setPair_wram (s : State) (p : Pair) (v : Word) : (setPair s p v).wram = s.wram := by cases p <;> rfl
@[simp] theorem setPair_oam (s : State) (p : Pair) (v : Word) : (setPair s p v).oam = s.oam := by cases p <;> rfl
@[simp] theorem setPair_io (s : State) (p : Pair) (v : Word) : (setPair s p v).io = s.io := by cases p <;> rfl
@[simp] theorem setPair_hram (s : State) (p : Pair) (v : Word) : (setPair s p v).hram = s.hram := by cases p <;> rfl
@[simp] theorem setPair_ie (s : State) (p : Pair) (v : Word) : (setPair s p v).ie = s.ie := by cases p <;> rfl
@[simp] theorem setPair_config (s : State) (p : Pair) (v : Word) : (setPair s p v).config = s.config := by cases p <;> rfl

/-! `setStackPair` -/

@[simp] theorem setStackPair_sp (s : State) (q : StackPair) (v : Word) : (setStackPair s q v).sp = s.sp := by cases q <;> rfl
@[simp] theorem setStackPair_pc (s : State) (q : StackPair) (v : Word) : (setStackPair s q v).pc = s.pc := by cases q <;> rfl
@[simp] theorem setStackPair_ime (s : State) (q : StackPair) (v : Word) : (setStackPair s q v).ime = s.ime := by cases q <;> rfl
@[simp] theorem setStackPair_currentOp (s : State) (q : StackPair) (v : Word) : (setStackPair s q v).currentOp = s.currentOp := by cases q <;> rfl
@[simp] theorem setStackPair_run (s : State) (q : StackPair) (v : Word) : (setStackPair s q v).run = s.run := by cases q <;> rfl
@[simp] theorem setStackPair_fault (s : State) (q : StackPair) (v : Word) : (setStackPair s q v).fault = s.fault := by cases q <;> rfl
@[simp] theorem setStackPair_ramEnabled (s : State) (q : StackPair) (v : Word) : (setStackPair s q v).ramEnabled = s.ramEnabled := by cases q <;> rfl
@[simp] theorem setStackPair_activeRomBank (s : State) (q : StackPair) (v : Word) : (setStackPair s q v).activeRomBank = s.activeRomBank := by cases q <;> rfl
@[simp] theorem setStackPair_activeRamBank (s : State) (q : StackPair) (v : Word) : (setStackPair s q v).activeRamBank = s.activeRamBank := by cases q <;> rfl
@[simp] theorem setStackPair_bankingMode (s : State) (q : StackPair) (v : Word) : (setStackPair s q v).bankingMode = s.bankingMode := by cases q <;> rfl
@[simp] theorem setStackPair_rom (s : State) (q : StackPair) (v : Word) : (setStackPair s q v).rom = s.rom := by cases q <;> rfl
@[simp] theorem setStackPair_cram (s : State) (q : StackPair) (v : Word) : (setStackPair s q v).cram = s.cram := by cases q <;> rfl
@[simp] theorem setStackPair_vram (s : State) (q : StackPair) (v : Word) : (setStackPair s q v).vram = s.vram := by cases q <;> rfl
@[simp] theorem setStackPair_wram (s : State) (q : StackPair) (v : Word) : (setStackPair s q v).wram = s.wram := by cases q <;> rfl
@[simp] theorem setStackPair_oam (s : State) (q : StackPair) (v : Word) : (setStackPair s q v).oam = s.oam := by cases q <;> rfl
@[simp] theorem setStackPair_io (s : State) (q : StackPair) (v : Word) : (setStackPair s q v).io = s.io := by cases q <;> rfl
@[simp] theorem setStackPair_hram (s : State) (q : StackPair) (v : Word) : (setStackPair s q v).hram = s.hram := by cases q <;> rfl
@[simp] theorem setStackPair_ie (s : State) (q : StackPair) (v : Word) : (setStackPair s q v).ie = s.ie := by cases q <;> rfl
@[simp] theorem setStackPair_config (s : State) (q : StackPair) (v : Word) : (setStackPair s q v).config = s.config := by cases q <;> rfl

/-! `writePlace` -/

@[simp] theorem writePlace_a (s : State) (p : Place) (v : Byte) : (writePlace s p v).a = s.a := by cases p <;> rfl
@[simp] theorem writePlace_f (s : State) (p : Place) (v : Byte) : (writePlace s p v).f = s.f := by cases p <;> rfl
@[simp] theorem writePlace_b (s : State) (p : Place) (v : Byte) : (writePlace s p v).b = s.b := by cases p <;> rfl
@[simp] theorem writePlace_c (s : State) (p : Place) (v : Byte) : (writePlace s p v).c = s.c := by cases p <;> rfl
@[simp] theorem writePlace_d (s : State) (p : Place) (v : Byte) : (writePlace s p v).d = s.d := by cases p <;> rfl
@[simp] theorem writePlace_e (s : State) (p : Place) (v : Byte) : (writePlace s p v).e = s.e := by cases p <;> rfl
@[simp] theorem writePlace_h (s : State) (p : Place) (v : Byte) : (writePlace s p v).h = s.h := by cases p <;> rfl
@[simp] theorem writePlace_l (s : State) (p : Place) (v : Byte) : (writePlace s p v).l = s.l := by cases p <;> rfl
@[simp] theorem writePlace_sp (s : State) (p : Place) (v : Byte) : (writePlace s p v).sp = s.sp := by cases p <;> rfl
@[simp] theorem writePlace_pc (s : State) (p : Place) (v : Byte) : (writePlace s p v).pc = s.pc := by cases p <;> rfl
@[simp] theorem writePlace_ime (s : State) (p : Place) (v : Byte) : (writePlace s p v).ime = s.ime := by cases p <;> rfl
@[simp] theorem writePlace_currentOp (s : State) (p : Place) (v : Byte) : (writePlace s p v).currentOp = s.currentOp := by cases p <;> rfl
@[simp] theorem writePlace_run (s : State) (p : Place) (v : Byte) : (writePlace s p v).run = s.run := by cases p <;> rfl
@[simp] theorem writePlace_fault (s : State) (p : Place) (v : Byte) : (writePlace s p v).fault = s.fault := by cases p <;> rfl
@[simp] theorem writePlace_ramEnabled (s : State) (p : Place) (v : Byte) : (writePlace s p v).ramEnabled = s.ramEnabled := by cases p <;> rfl
@[simp] theorem writePlace_activeRomBank (s : State) (p : Place) (v : Byte) : (writePlace s p v).activeRomBank = s.activeRomBank := by cases p <;> rfl
@[simp] theorem writePlace_activeRamBank (s : State) (p : Place) (v : Byte) : (writePlace s p v).activeRamBank = s.activeRamBank := by cases p <;> rfl
@[simp] theorem writePlace_bankingMode (s : State) (p : Place) (v : Byte) : (writePlace s p v).bankingMode = s.bankingMode := by cases p <;> rfl
@[simp] theorem writePlace_rom (s : State) (p : Place) (v : Byte) : (writePlace s p v).rom = s.rom := by cases p <;> rfl
@[simp] theorem writePlace_config (s : State) (p : Place) (v : Byte) : (writePlace s p v).config = s.config := by cases p <;> rfl

/-! `controlWrite` -/

@[simp] theorem controlWrite_a (s : State) (address : Word) (v : Byte) : (controlWrite s address v).a = s.a := by
  unfold controlWrite; split <;> (try rfl); dsimp only; split_ifs <;> rfl
@[simp] theorem controlWrite_f (s : State) (address : Word) (v : Byte) : (controlWrite s address v).f = s.f := by
  unfold controlWrite; split <;> (try rfl); dsimp only; split_ifs <;> rfl
@[simp] theorem controlWrite_b (s : State) (address : Word) (v : Byte) : (controlWrite s address v).b = s.b := by
  unfold controlWrite; split <;> (try rfl); dsimp only; split_ifs <;> rfl
@[simp] theorem controlWrite_c (s : State) (address : Word) (v : Byte) : (controlWrite s address v).c = s.c := by
  unfold controlWrite; split <;> (try rfl); dsimp only; split_ifs <;> rfl
@[simp] theorem controlWrite_d (s : State) (address : Word) (v : Byte) : (controlWrite s address v).d = s.d := by
  unfold controlWrite; split <;> (try rfl); dsimp only; split_ifs <;> rfl
@[simp] theorem controlWrite_e (s : State) (address : Word) (v : Byte) : (controlWrite s address v).e = s.e := by
  unfold controlWrite; split <;> (try rfl); dsimp only; split_ifs <;> rfl
@[simp] theorem controlWrite_h (s : State) (address : Word) (v : Byte) : (controlWrite s address v).h = s.h := by
  unfold controlWrite; split <;> (try rfl); dsimp only; split_ifs <;> rfl
@[simp] theorem controlWrite_l (s : State) (address : Word) (v : Byte) : (controlWrite s address v).l = s.l := by
  unfold controlWrite; split <;> (try rfl); dsimp only; split_ifs <;> rfl
@[simp] theorem controlWrite_sp (s : State) (address : Word) (v : Byte) : (controlWrite s address v).sp = s.sp := by
  unfold controlWrite; split <;> (try rfl); dsimp only; split_ifs <;> rfl
@[simp] theorem controlWrite_pc (s : State) (address : Word) (v : Byte) : (controlWrite s address v).pc = s.pc := by
  unfold controlWrite; split <;> (try rfl); dsimp only; split_ifs <;> rfl
@[simp] theorem controlWrite_ime (s : State) (address : Word) (v : Byte) : (controlWrite s address v).ime = s.ime := by
  unfold controlWrite; split <;> (try rfl); dsimp only; split_ifs <;> rfl
@[simp] theorem controlWrite_currentOp (s : State) (address : Word) (v : Byte) : (controlWrite s address v).currentOp = s.currentOp := by
  unfold controlWrite; split <;> (try rfl); dsimp only; split_ifs <;> rfl
@[simp] theorem controlWrite_run (s : State) (address : Word) (v : Byte) : (controlWrite s address v).run = s.run := by
  unfold controlWrite; split <;> (try rfl); dsimp only; split_ifs <;> rfl
@[simp] theorem controlWrite_fault (s : State) (address : Word) (v : Byte) : (controlWrite s address v).fault = s.fault := by
  unfold controlWrite; split <;> (try rfl); dsimp only; split_ifs <;> rfl
@[simp] theorem controlWrite_rom (s : State) (address : Word) (v : Byte) : (controlWrite s address v).rom = s.rom := by
  unfold controlWrite; split <;> (try rfl); dsimp only; split_ifs <;> rfl
@[simp] theorem controlWrite_cram (s : State) (address : Word) (v : Byte) : (controlWrite s address v).cram = s.cram := by
  unfold controlWrite; split <;> (try rfl); dsimp only; split_ifs <;> rfl
@[simp] theorem controlWrite_vram (s : State) (address : Word) (v : Byte) : (controlWrite s address v).vram = s.vram := by
  unfold controlWrite; split <;> (try rfl); dsimp only; split_ifs <;> rfl
@[simp] theorem controlWrite_wram (s : State) (address : Word) (v : Byte) : (controlWrite s address v).wram = s.wram := by
  unfold controlWrite; split <;> (try rfl); dsimp only; split_ifs <;> rfl
@[simp] theorem controlWrite_oam (s : State) (address : Word) (v : Byte) : (controlWrite s address v).oam = s.oam := by
  unfold controlWrite; split <;> (try rfl); dsimp only; split_ifs <;> rfl
@[simp] theorem controlWrite_io (s : State) (address : Word) (v : Byte) : (controlWrite s address v).io = s.io := by
  unfold controlWrite; split <;> (try rfl); dsimp only; split_ifs <;> rfl
@[simp] theorem controlWrite_hram (s : State) (address : Word) (v : Byte) : (controlWrite s address v).hram = s.hram := by
  unfold controlWrite; split <;> (try rfl); dsimp only; split_ifs <;> rfl
@[simp] theorem controlWrite_ie (s : State) (address : Word) (v : Byte) : (controlWrite s address v).ie = s.ie := by
  unfold controlWrite; split <;> (try rfl); dsimp only; split_ifs <;> rfl
@[simp] theorem controlWrite_config (s : State) (address : Word) (v : Byte) : (controlWrite s address v).config = s.config := by
  unfold controlWrite; split <;> (try rfl); dsimp only; split_ifs <;> rfl

/-! ### Reading registers, pairs, flags and bytes through the updates -/

theorem reg8_setReg8 (s : State) (r r' : Reg8) (v : Byte) :
    reg8 (setReg8 s r v) r' = if r' = r then v else reg8 s r' := by
  cases r <;> cases r' <;> rfl

@[simp] theorem reg8_setReg8_same (s : State) (r : Reg8) (v : Byte) : reg8 (setReg8 s r v) r = v := by
  cases r <;> rfl

theorem reg8_setReg8_other (s : State) (r r' : Reg8) (v : Byte) (h : r' ≠ r) :
    reg8 (setReg8 s r v) r' = reg8 s r' := by
  rw [reg8_setReg8, if_neg h]

@[simp] theorem reg8_setPc (s : State) (v : Word) (x : Reg8) : reg8 (setPc s v) x = reg8 s x := by cases x <;> rfl
@[simp] theorem pair_setPc (s : State) (v : Word) (x : Pair) : pair (setPc s v) x = pair s x := by cases x <;> rfl
@[simp] theorem hlAddress_setPc (s : State) (v : Word) : hlAddress (setPc s v) = hlAddress s := rfl
@[simp] theorem place_setPc (s : State) (v : Word) (address : Word) : place (setPc s v) address = place s address := rfl
@[simp] theorem readPlace_setPc (s : State) (v : Word) (x : Place) : readPlace (setPc s v) x = readPlace s x := by cases x <;> rfl
@[simp] theorem busRead_setPc (s : State) (v : Word) (address : Word) : busRead (setPc s v) address = busRead s address := by
  simp only [busRead, place_setPc, readPlace_setPc]
@[simp] theorem reg8_setSp (s : State) (v : Word) (x : Reg8) : reg8 (setSp s v) x = reg8 s x := by cases x <;> rfl
@[simp] theorem hlAddress_setSp (s : State) (v : Word) : hlAddress (setSp s v) = hlAddress s := rfl
@[simp] theorem place_setSp (s : State) (v : Word) (address : Word) : place (setSp s v) address = place s address := rfl
@[simp] theorem readPlace_setSp (s : State) (v : Word) (x : Place) : readPlace (setSp s v) x = readPlace s x := by cases x <;> rfl
@[simp] theorem busRead_setSp (s : State) (v : Word) (address : Word) : busRead (setSp s v) address = busRead s address := by
  simp only [busRead, place_setSp, readPlace_setSp]
@[simp] theorem reg8_setIme (s : State) (on : Bool) (x : Reg8) : reg8 (setIme s on) x = reg8 s x := by cases x <;> rfl
@[simp] theorem pair_setIme (s : State) (on : Bool) (x : Pair) : pair (setIme s on) x = pair s x := by cases x <;> rfl
@[simp] theorem hlAddress_setIme (s : State) (on : Bool) : hlAddress (setIme s on) = hlAddress s := rfl
@[simp] theorem place_setIme (s : State) (on : Bool) (address : Word) : place (setIme s on) address = place s address := rfl
@[simp] theorem readPlace_setIme (s : State) (on : Bool) (x : Place) : readPlace (setIme s on) x = readPlace s x := by cases x <;> rfl
@[simp] theorem busRead_setIme (s : State) (on : Bool) (address : Word) : busRead (setIme s on) address = busRead s address := by
  simp only [busRead, place_setIme, readPlace_setIme]
@[simp] theorem reg8_setRun (s : State) (r : RunState) (x : Reg8) : reg8 (setRun s r) x = reg8 s x := by cases x <;> rfl
@[simp] theorem pair_setRun (s : State) (r : RunState) (x : Pair) : pair (setRun s r) x = pair s x := by cases x <;> rfl
@[simp] theorem hlAddress_setRun (s : State) (r : RunState) : hlAddress (setRun s r) = hlAddress s := rfl
@[simp] theorem place_setRun (s : State) (r : RunState) (address : Word) : place (setRun s r) address = place s address := rfl
@[simp] theorem readPlace_setRun (s : State) (r : RunState) (x : Place) : readPlace (setRun s r) x = readPlace s x := by cases x <;> rfl
@[simp] theorem busRead_setRun (s : State) (r : RunState) (address : Word) : busRead (setRun s r) address = busRead s address := by
  simp only [busRead, place_setRun, readPlace_setRun]
@[simp] theorem reg8_setCurrentOp (s : State) (op : Byte) (x : Reg8) : reg8 (setCurrentOp s op) x = reg8 s x := by cases x <;> rfl
@[simp] theorem pair_setCurrentOp (s : State) (op : Byte) (x : Pair) : pair (setCurrentOp s op) x = pair s x := by cases x <;> rfl
@[simp] theorem hlAddress_setCurrentOp (s : State) (op : Byte) : hlAddress (setCurrentOp s op) = hlAddress s := rfl
@[simp] theorem place_setCurrentOp (s : State) (op : Byte) (address : Word) : place (setCurrentOp s op) address = place s address := rfl
@[simp] theorem readPlace_setCurrentOp (s : State) (op : Byte) (x : Place) : readPlace (setCurrentOp s op) x = readPlace s x := by cases x <;> rfl
@[simp] theorem busRead_setCurrentOp (s : State) (op : Byte) (address : Word) : busRead (setCurrentOp s op) address = busRead s address := by
  simp only [busRead, place_setCurrentOp, readPlace_setCurrentOp]
@[simp] theorem reg8_advance (s : State) (n : Word) (x : Reg8) : reg8 (advance s n) x = reg8 s x := by cases x <;> rfl
@[simp] theorem pair_advance (s : State) (n : Word) (x : Pair) : pair (advance s n) x = pair s x := by cases x <;> rfl
@[simp] theorem hlAddress_advance (s : State) (n : Word) : hlAddress (advance s n) = hlAddress s := rfl
@[simp] theorem place_advance (s : State) (n : Word) (address : Word) : place (advance s n) address = place s address := rfl
@[simp] theorem readPlace_advance (s : State) (n : Word) (x : Place) : readPlace (advance s n) x = readPlace s x := by cases x <;> rfl
@[simp] theorem busRead_advance (s : State) (n : Word) (address : Word) : busRead (advance s n) address = busRead s address := by
  simp only [busRead, place_advance, readPlace_advance]
@[simp] theorem reg8_setF (s : State) (v : Byte) (x : Reg8) : reg8 (setF s v) x = reg8 s x := by cases x <;> rfl
@[simp] theorem pair_setF (s : State) (v : Byte) (x : Pair) : pair (setF s v) x = pair s x := by cases x <;> rfl
@[simp] theorem hlAddress_setF (s : State) (v : Byte) : hlAddress (setF s v) = hlAddress s := rfl
@[simp] theorem place_setF (s : State) (v : Byte) (address : Word) : place (setF s v) address = place s address := rfl
@[simp] theorem readPlace_setF (s : State) (v : Byte) (x : Place) : readPlace (setF s v) x = readPlace s x := by cases x <;> rfl
@[simp] theorem busRead_setF (s : State) (v : Byte) (address : Word) : busRead (setF s v) address = busRead s address := by
  simp only [busRead, place_setF, readPlace_setF]
@[simp] theorem reg8_withFlags (s : State) (u : FlagUpdate) (x : Reg8) : reg8 (withFlags s u) x = reg8 s x := by cases x <;> rfl
@[simp] theorem pair_withFlags (s : State) (u : FlagUpdate) (x : Pair) : pair (withFlags s u) x = pair s x := by cases x <;> rfl
@[simp] theorem hlAddress_withFlags (s : State) (u : FlagUpdate) : hlAddress (withFlags s u) = hlAddress s := rfl
@[simp] theorem place_withFlags (s : State) (u : FlagUpdate) (address : Word) : place (withFlags s u) address = place s address := rfl
@[simp] theorem readPlace_withFlags (s : State) (u : FlagUpdate) (x : Place) : readPlace (withFlags s u) x = readPlace s x := by cases x <;> rfl
@[simp] theorem busRead_withFlags (s : State) (u : FlagUpdate) (address : Word) : busRead (withFlags s u) address = busRead s address := by
  simp only [busRead, place_withFlags, readPlace_withFlags]
@[simp] theorem reg8_writePlace (s : State) (x : Place) (v : Byte) (r : Reg8) : reg8 (writePlace s x v) r = reg8 s r := by cases r <;> simp [reg8]
@[simp] theorem pair_writePlace (s : State) (x : Place) (v : Byte) (y : Pair) : pair (writePlace s x v) y = pair s y := by cases y <;> simp [pair]
@[simp] theorem hlAddress_writePlace (s : State) (x : Place) (v : Byte) : hlAddress (writePlace s x v) = hlAddress s := by simp [hlAddress]
@[simp] theorem reg8_controlWrite (s : State) (address : Word) (v : Byte) (r : Reg8) : reg8 (controlWrite s address v) r = reg8 s r := by cases r <;> simp [reg8]
@[simp] theorem pair_controlWrite (s : State) (address : Word) (v : Byte) (y : Pair) : pair (controlWrite s address v) y = pair s y := by cases y <;> simp [pair]
@[simp] theorem hlAddress_controlWrite (s : State) (address : Word) (v : Byte) : hlAddress (controlWrite s address v) = hlAddress s := by simp [hlAddress]
@[simp] theorem place_setReg8 (s : State) (r : Reg8) (v : Byte) (address : Word) : place (setReg8 s r v) address = place s address := by cases r <;> rfl
@[simp] theorem readPlace_setReg8 (s : State) (r : Reg8) (v : Byte) (x : Place) : readPlace (setReg8 s r v) x = readPlace s x := by cases r <;> cases x <;> rfl
@[simp] theorem busRead_setReg8 (s : State) (r : Reg8) (v : Byte) (address : Word) : busRead (setReg8 s r v) address = busRead s address := by
  simp only [busRead, place_setReg8, readPlace_setReg8]
@[simp] theorem place_setPair (s : State) (y : Pair) (v : Word) (address : Word) : place (setPair s y v) address = place s address := by cases y <;> rfl
@[simp] theorem readPlace_setPair (s : State) (y : Pair) (v : Word) (x : Place) : readPlace (setPair s y v) x = readPlace s x := by cases y <;> cases x <;> rfl
@[simp] theorem busRead_setPair (s : State) (y : Pair) (v : Word) (address : Word) : busRead (setPair s y v) address = busRead s address := by
  simp only [busRead, place_setPair, readPlace_setPair]
@[simp] theorem place_setStackPair (s : State) (q : StackPair) (v : Word) (address : Word) : place (setStackPair s q v) address = place s address := by cases q <;> rfl
@[simp] theorem readPlace_setStackPair (s : State) (q : StackPair) (v : Word) (x : Place) : readPlace (setStackPair s q v) x = readPlace s x := by cases q <;> cases x <;> rfl
@[simp] theorem busRead_setStackPair (s : State) (q : StackPair) (v : Word) (address : Word) : busRead (setStackPair s q v) address = busRead s address := by
  simp only [busRead, place_setStackPair, readPlace_setStackPair]

theorem pair_setPair (s : State) (p : Pair) (v : Word) : pair (setPair s p v) p = v := by
  cases p <;> simp [pair, setPair, setReg8]

end Sys2Proof.Machine
end

