-- ==== Sys2Proof/Laws/Bus.lean ====
section
/-! SUPPORT. What a bus access can do: where an address leads, what a write leaves, and that a write keeps the CPU, ROM, the
configuration and the invariant. -/

namespace Sys2Proof.Machine

/-! ### The address decode -/

/-- The decode reads only the bank state and the configuration. -/
theorem place_congr {s t : State} (hc : t.config = s.config) (hr : t.ramEnabled = s.ramEnabled)
    (hb : t.activeRomBank = s.activeRomBank) (hm : t.activeRamBank = s.activeRamBank) (address : Word) :
    place t address = place s address := by
  have hw : windowBank t = windowBank s := by unfold windowBank; rw [hc, hb]
  have hk : ramBank t = ramBank s := by unfold ramBank; rw [hc, hm]
  unfold place romPlace cramPlace
  rw [hw, hk, hc, hr]

@[simp] theorem place_writePlace (s : State) (p : Place) (v : Byte) (address : Word) :
    place (writePlace s p v) address = place s address := by
  cases p <;> rfl

/-- Where the decode leads is inside the store it leads to (20_memory.md R51; 10_state.md R35). -/
theorem place_inside {s : State} {address : Word} {p : Place} (h : place s address = .ok p) :
    match p with
    | .rom n => n < s.config.romBankCount * Config.romBankSize
    | .cram n => n < s.config.ramBankCount * s.config.ramBankSize
    | .vram n => n < 0x2000
    | .wram n => n < 0x2000
    | .oam n => n < 0xA0
    | .io n => n < 0x80
    | .hram n => n < 0x7F
    | .cramDisabled => True
    | .ie => True := by
  have inBank : ∀ {bank count offset size : Nat}, bank < count → offset < size →
      bank * size + offset < count * size := by
    intro bank count offset size hb ho
    calc bank * size + offset < bank * size + size := by omega
      _ = (bank + 1) * size := by rw [Nat.add_mul, Nat.one_mul]
      _ ≤ count * size := Nat.mul_le_mul_right size hb
  unfold place romPlace cramPlace at h
  simp only at h
  split_ifs at h <;> simp only [Except.ok.injEq] at h <;> subst h <;> simp only <;> first
    | omega
    | exact inBank (by assumption) (by simp only [Config.romBankSize]; omega)
    | exact inBank (And.left ‹_ ∧ _›) (And.right ‹_ ∧ _›)

/-- Only an address below 0x8000 leads to ROM. -/
theorem place_rom_low {s : State} {address : Word} {n : Nat} (h : place s address = .ok (.rom n)) :
    address.toNat < 0x8000 := by
  unfold place romPlace cramPlace at h
  simp only at h
  split_ifs at h <;> first | omega | simp only [Except.ok.injEq, reduceCtorEq] at h

/-! ### Writing -/

/-- A place that holds a byte the bus can write. -/
def Place.writable : Place → Bool
  | .rom _ => false
  | .cramDisabled => false
  | _ => true

/-- A write at a place changes that byte and no other byte of any store. -/
theorem readPlace_writePlace (s : State) (p q : Place) (v : Byte) :
    readPlace (writePlace s p v) q = if q = p ∧ p.writable then v else readPlace s q := by
  cases p <;> cases q <;> simp [writePlace, readPlace, Place.writable, Memory.get_set]

@[simp] theorem readPlace_controlWrite (s : State) (address : Word) (v : Byte) (p : Place) :
    readPlace (controlWrite s address v) p = readPlace s p := by
  cases p <;> simp [readPlace]

/-- What a completed bus write did: a control write, or a byte stored where the address leads. -/
theorem busWrite_cases {s t : State} {address : Word} {v : Byte} (h : busWrite s address v = .ok t) :
    (address.toNat < 0x8000 ∧ t = controlWrite s address v) ∨
      (0x8000 ≤ address.toNat ∧ ∃ p, place s address = .ok p ∧ t = writePlace s p v) := by
  unfold busWrite at h
  split_ifs at h with hlow
  · exact .inl ⟨hlow, (Except.ok.inj h).symm⟩
  · refine .inr ⟨by omega, ?_⟩
    split at h
    · exact ⟨_, by assumption, (Except.ok.inj h).symm⟩
    · cases h

/-- A bus write leaves the CPU, ROM and the configuration (20_memory.md R63; 70_reset_and_hazards.md R331). -/
theorem busWrite_keeps {s t : State} {address : Word} {v : Byte} (h : busWrite s address v = .ok t) :
    (∀ r, reg8 t r = reg8 s r) ∧ t.f = s.f ∧ t.sp = s.sp ∧ t.pc = s.pc ∧ t.ime = s.ime ∧ t.currentOp = s.currentOp ∧
      t.run = s.run ∧ t.fault = s.fault ∧ t.rom = s.rom ∧ t.config = s.config := by
  rcases busWrite_cases h with ⟨-, rfl⟩ | ⟨-, p, -, rfl⟩ <;> simp

/-- A bus write stores only at its address. -/
theorem busWrite_storesOnlyAt {s t : State} {address : Word} {v : Byte} (h : busWrite s address v = .ok t) :
    storesOnlyAt [address] s t := by
  rcases busWrite_cases h with ⟨hlow, rfl⟩ | ⟨hhigh, p, hp, rfl⟩
  · exact ⟨fun p _ => by simp, fun hall => absurd (hall address (by simp)) (by omega)⟩
  · refine ⟨fun q hq => ?_, fun _ => ⟨by simp [bankSame], fun b hb => ?_⟩⟩
    · have hne : q ≠ p := fun he => hq address (by simp) hhigh (he ▸ hp)
      simp [readPlace_writePlace, hne]
    · have hbne := hb address (by simp)
      simp only [busRead, place_writePlace]
      cases hplace : place s b with
      | error e => rfl
      | ok q =>
        have hne : q ≠ p := fun he => hbne (by rw [hplace, hp, he])
        simp [readPlace_writePlace, hne]

/-- Writing a data byte where it is stored makes it what the address reads (20_memory.md R78). -/
theorem busRead_after_busWrite {s t : State} {address : Word} {v : Byte} (h : busWrite s address v = .ok t)
    (hhigh : 0x8000 ≤ address.toNat) (hstored : place s address ≠ .ok .cramDisabled) : busRead t address = .ok v := by
  rcases busWrite_cases h with ⟨hlow, -⟩ | ⟨-, p, hp, rfl⟩
  · omega
  · have hw : p.writable = true := by
      cases p <;> first | rfl | exact absurd hp hstored | exact absurd (place_rom_low hp) (by omega)
    simp [busRead, hp, readPlace_writePlace, hw]

/-! ### The invariant -/

theorem romBankSelect_ne_zero (v : Byte) : romBankSelect v ≠ 0 := by
  unfold romBankSelect
  simp only
  split_ifs with h
  · decide
  · exact h

theorem controlWrite_inv {s : State} (address : Word) (v : Byte) (h : s.Inv) : (controlWrite s address v).Inv := by
  unfold controlWrite
  split
  · exact h
  · rename_i hc
    have hno : s.config.controller ≠ .noBanking := by rw [hc]; decide
    simp only
    split_ifs <;>
      exact { h with
        romBank := by first | exact h.romBank | exact romBankSelect_ne_zero v
        noBanking := fun hn => absurd hn hno }

theorem writePlace_inv {s : State} {address : Word} {p : Place} (v : Byte) (h : s.Inv)
    (hp : place s address = .ok p) : (writePlace s p v).Inv := by
  have hin := place_inside hp
  cases p with
  | rom n => exact h
  | cramDisabled => exact h
  | ie => exact { h with }
  | vram n => exact { h with vram := Memory.set_good v h.vram hin }
  | cram n => exact { h with cram := Memory.set_good v h.cram hin }
  | wram n => exact { h with wram := Memory.set_good v h.wram hin }
  | oam n => exact { h with oam := Memory.set_good v h.oam hin }
  | io n => exact { h with io := Memory.set_good v h.io hin }
  | hram n => exact { h with hram := Memory.set_good v h.hram hin }

/-- A bus write keeps the invariant. -/
theorem busWrite_inv {s t : State} {address : Word} {v : Byte} (h : busWrite s address v = .ok t) (hi : s.Inv) :
    t.Inv := by
  rcases busWrite_cases h with ⟨-, rfl⟩ | ⟨-, p, hp, rfl⟩
  · exact controlWrite_inv address v hi
  · exact writePlace_inv v hi hp

end Sys2Proof.Machine
end

