-- ==== Sys2Proof/Laws/PerInstr.lean ====
section
/-! SUPPORT. The round trip, one lemma per instruction: its bytes decode to it, and what follows them is left over. -/

namespace Sys2Proof.Laws.RoundTrip

/-- The bytes of a well-formed instruction decode to it; whatever bytes follow are left over, but after a prefix byte, where
the next byte is the sub-opcode. -/
def Statement (i : Instr) : Prop :=
  i.wellFormed = true →
    decode (encode i) = .ok (i, []) ∧ (i ≠ .prefixCb → ∀ rest, decode (encode i ++ rest) = .ok (i, rest))

/-- The statement from one equation for all continuations. -/
theorem of_append {i : Instr} (h : ∀ rest, decode (encode i ++ rest) = .ok (i, rest)) : Statement i :=
  fun _ => ⟨by simpa using h [], fun _ => h⟩

theorem ldBcNn (nn : Word) : Statement (.ldBcNn nn) :=
  of_append fun _ => congrArg (fun v => Except.ok (Instr.ldBcNn v, _)) (joinBytes_hi_lo nn)
theorem ldBN (n : Byte) : Statement (.ldBN n) := of_append fun _ => rfl
theorem ldIndNnSp (nn : Word) : Statement (.ldIndNnSp nn) :=
  of_append fun _ => congrArg (fun v => Except.ok (Instr.ldIndNnSp v, _)) (joinBytes_hi_lo nn)
theorem ldCN (n : Byte) : Statement (.ldCN n) := of_append fun _ => rfl
theorem ldDeNn (nn : Word) : Statement (.ldDeNn nn) :=
  of_append fun _ => congrArg (fun v => Except.ok (Instr.ldDeNn v, _)) (joinBytes_hi_lo nn)
theorem ldDN (n : Byte) : Statement (.ldDN n) := of_append fun _ => rfl
theorem jrE (e : Byte) : Statement (.jrE e) := of_append fun _ => rfl
theorem ldEN (n : Byte) : Statement (.ldEN n) := of_append fun _ => rfl
theorem jrNzE (e : Byte) : Statement (.jrNzE e) := of_append fun _ => rfl
theorem ldHlNn (nn : Word) : Statement (.ldHlNn nn) :=
  of_append fun _ => congrArg (fun v => Except.ok (Instr.ldHlNn v, _)) (joinBytes_hi_lo nn)
theorem ldHN (n : Byte) : Statement (.ldHN n) := of_append fun _ => rfl
theorem jrZE (e : Byte) : Statement (.jrZE e) := of_append fun _ => rfl
theorem ldLN (n : Byte) : Statement (.ldLN n) := of_append fun _ => rfl
theorem jrNcE (e : Byte) : Statement (.jrNcE e) := of_append fun _ => rfl
theorem ldSpNn (nn : Word) : Statement (.ldSpNn nn) :=
  of_append fun _ => congrArg (fun v => Except.ok (Instr.ldSpNn v, _)) (joinBytes_hi_lo nn)
theorem ldIndHlN (n : Byte) : Statement (.ldIndHlN n) := of_append fun _ => rfl
theorem jrCE (e : Byte) : Statement (.jrCE e) := of_append fun _ => rfl
theorem ldAN (n : Byte) : Statement (.ldAN n) := of_append fun _ => rfl
theorem jpNzNn (nn : Word) : Statement (.jpNzNn nn) :=
  of_append fun _ => congrArg (fun v => Except.ok (Instr.jpNzNn v, _)) (joinBytes_hi_lo nn)
theorem jpNn (nn : Word) : Statement (.jpNn nn) :=
  of_append fun _ => congrArg (fun v => Except.ok (Instr.jpNn v, _)) (joinBytes_hi_lo nn)
theorem callNzNn (nn : Word) : Statement (.callNzNn nn) :=
  of_append fun _ => congrArg (fun v => Except.ok (Instr.callNzNn v, _)) (joinBytes_hi_lo nn)
theorem addAN (n : Byte) : Statement (.addAN n) := of_append fun _ => rfl
theorem jpZNn (nn : Word) : Statement (.jpZNn nn) :=
  of_append fun _ => congrArg (fun v => Except.ok (Instr.jpZNn v, _)) (joinBytes_hi_lo nn)
theorem callZNn (nn : Word) : Statement (.callZNn nn) :=
  of_append fun _ => congrArg (fun v => Except.ok (Instr.callZNn v, _)) (joinBytes_hi_lo nn)
theorem callNn (nn : Word) : Statement (.callNn nn) :=
  of_append fun _ => congrArg (fun v => Except.ok (Instr.callNn v, _)) (joinBytes_hi_lo nn)
theorem adcAN (n : Byte) : Statement (.adcAN n) := of_append fun _ => rfl
theorem jpNcNn (nn : Word) : Statement (.jpNcNn nn) :=
  of_append fun _ => congrArg (fun v => Except.ok (Instr.jpNcNn v, _)) (joinBytes_hi_lo nn)
theorem illegal (op : Byte) : Statement (.illegal op) := by
  intro hw
  have hmem : op ∈ illegalOpcodes := by simpa [Instr.wellFormed] using hw
  simp only [illegalOpcodes, List.mem_cons, List.not_mem_nil, or_false] at hmem
  rcases hmem with rfl | rfl | rfl | rfl | rfl | rfl | rfl | rfl | rfl | rfl | rfl <;> exact ⟨rfl, fun _ _ => rfl⟩
theorem callNcNn (nn : Word) : Statement (.callNcNn nn) :=
  of_append fun _ => congrArg (fun v => Except.ok (Instr.callNcNn v, _)) (joinBytes_hi_lo nn)
theorem subAN (n : Byte) : Statement (.subAN n) := of_append fun _ => rfl
theorem jpCNn (nn : Word) : Statement (.jpCNn nn) :=
  of_append fun _ => congrArg (fun v => Except.ok (Instr.jpCNn v, _)) (joinBytes_hi_lo nn)
theorem callCNn (nn : Word) : Statement (.callCNn nn) :=
  of_append fun _ => congrArg (fun v => Except.ok (Instr.callCNn v, _)) (joinBytes_hi_lo nn)
theorem sbcAN (n : Byte) : Statement (.sbcAN n) := of_append fun _ => rfl
theorem ldhIndNA (n : Byte) : Statement (.ldhIndNA n) := of_append fun _ => rfl
theorem andAN (n : Byte) : Statement (.andAN n) := of_append fun _ => rfl
theorem addSpE (e : Byte) : Statement (.addSpE e) := of_append fun _ => rfl
theorem ldIndNnA (nn : Word) : Statement (.ldIndNnA nn) :=
  of_append fun _ => congrArg (fun v => Except.ok (Instr.ldIndNnA v, _)) (joinBytes_hi_lo nn)
theorem xorAN (n : Byte) : Statement (.xorAN n) := of_append fun _ => rfl
theorem ldhAIndN (n : Byte) : Statement (.ldhAIndN n) := of_append fun _ => rfl
theorem orAN (n : Byte) : Statement (.orAN n) := of_append fun _ => rfl
theorem ldHlSpE (e : Byte) : Statement (.ldHlSpE e) := of_append fun _ => rfl
theorem ldAIndNn (nn : Word) : Statement (.ldAIndNn nn) :=
  of_append fun _ => congrArg (fun v => Except.ok (Instr.ldAIndNn v, _)) (joinBytes_hi_lo nn)
theorem cpAN (n : Byte) : Statement (.cpAN n) := of_append fun _ => rfl
theorem nop : Statement .nop := of_append fun _ => rfl
theorem ldIndBcA : Statement .ldIndBcA := of_append fun _ => rfl
theorem incBc : Statement .incBc := of_append fun _ => rfl
theorem incB : Statement .incB := of_append fun _ => rfl
theorem decB : Statement .decB := of_append fun _ => rfl
theorem rlca : Statement .rlca := of_append fun _ => rfl
theorem addHlBc : Statement .addHlBc := of_append fun _ => rfl
theorem ldAIndBc : Statement .ldAIndBc := of_append fun _ => rfl
theorem decBc : Statement .decBc := of_append fun _ => rfl
theorem incC : Statement .incC := of_append fun _ => rfl
theorem decC : Statement .decC := of_append fun _ => rfl
theorem rrca : Statement .rrca := of_append fun _ => rfl
theorem stop : Statement .stop := of_append fun _ => rfl
theorem ldIndDeA : Statement .ldIndDeA := of_append fun _ => rfl
theorem incDe : Statement .incDe := of_append fun _ => rfl
theorem incD : Statement .incD := of_append fun _ => rfl
theorem decD : Statement .decD := of_append fun _ => rfl
theorem rla : Statement .rla := of_append fun _ => rfl
theorem addHlDe : Statement .addHlDe := of_append fun _ => rfl
theorem ldAIndDe : Statement .ldAIndDe := of_append fun _ => rfl
theorem decDe : Statement .decDe := of_append fun _ => rfl
theorem incE : Statement .incE := of_append fun _ => rfl
theorem decE : Statement .decE := of_append fun _ => rfl
theorem rra : Statement .rra := of_append fun _ => rfl
theorem ldIndHlIncA : Statement .ldIndHlIncA := of_append fun _ => rfl
theorem incHl : Statement .incHl := of_append fun _ => rfl
theorem incH : Statement .incH := of_append fun _ => rfl
theorem decH : Statement .decH := of_append fun _ => rfl
theorem daa : Statement .daa := of_append fun _ => rfl
theorem addHlHl : Statement .addHlHl := of_append fun _ => rfl
theorem ldAIndHlInc : Statement .ldAIndHlInc := of_append fun _ => rfl
theorem decHl : Statement .decHl := of_append fun _ => rfl
theorem incL : Statement .incL := of_append fun _ => rfl
theorem decL : Statement .decL := of_append fun _ => rfl
theorem cpl : Statement .cpl := of_append fun _ => rfl
theorem ldIndHlDecA : Statement .ldIndHlDecA := of_append fun _ => rfl
theorem incSp : Statement .incSp := of_append fun _ => rfl
theorem incIndHl : Statement .incIndHl := of_append fun _ => rfl
theorem decIndHl : Statement .decIndHl := of_append fun _ => rfl
theorem scf : Statement .scf := of_append fun _ => rfl
theorem addHlSp : Statement .addHlSp := of_append fun _ => rfl
theorem ldAIndHlDec : Statement .ldAIndHlDec := of_append fun _ => rfl
theorem decSp : Statement .decSp := of_append fun _ => rfl
theorem incA : Statement .incA := of_append fun _ => rfl
theorem decA : Statement .decA := of_append fun _ => rfl
theorem ccf : Statement .ccf := of_append fun _ => rfl
theorem ldBB : Statement .ldBB := of_append fun _ => rfl
theorem ldBC : Statement .ldBC := of_append fun _ => rfl
theorem ldBD : Statement .ldBD := of_append fun _ => rfl
theorem ldBE : Statement .ldBE := of_append fun _ => rfl
theorem ldBH : Statement .ldBH := of_append fun _ => rfl
theorem ldBL : Statement .ldBL := of_append fun _ => rfl
theorem ldBIndHl : Statement .ldBIndHl := of_append fun _ => rfl
theorem ldBA : Statement .ldBA := of_append fun _ => rfl
theorem ldCB : Statement .ldCB := of_append fun _ => rfl
theorem ldCC : Statement .ldCC := of_append fun _ => rfl
theorem ldCD : Statement .ldCD := of_append fun _ => rfl
theorem ldCE : Statement .ldCE := of_append fun _ => rfl
theorem ldCH : Statement .ldCH := of_append fun _ => rfl
theorem ldCL : Statement .ldCL := of_append fun _ => rfl
theorem ldCIndHl : Statement .ldCIndHl := of_append fun _ => rfl
theorem ldCA : Statement .ldCA := of_append fun _ => rfl
theorem ldDB : Statement .ldDB := of_append fun _ => rfl
theorem ldDC : Statement .ldDC := of_append fun _ => rfl
theorem ldDD : Statement .ldDD := of_append fun _ => rfl
theorem ldDE : Statement .ldDE := of_append fun _ => rfl
theorem ldDH : Statement .ldDH := of_append fun _ => rfl
theorem ldDL : Statement .ldDL := of_append fun _ => rfl
theorem ldDIndHl : Statement .ldDIndHl := of_append fun _ => rfl
theorem ldDA : Statement .ldDA := of_append fun _ => rfl
theorem ldEB : Statement .ldEB := of_append fun _ => rfl
theorem ldEC : Statement .ldEC := of_append fun _ => rfl
theorem ldED : Statement .ldED := of_append fun _ => rfl
theorem ldEE : Statement .ldEE := of_append fun _ => rfl
theorem ldEH : Statement .ldEH := of_append fun _ => rfl
theorem ldEL : Statement .ldEL := of_append fun _ => rfl
theorem ldEIndHl : Statement .ldEIndHl := of_append fun _ => rfl
theorem ldEA : Statement .ldEA := of_append fun _ => rfl
theorem ldHB : Statement .ldHB := of_append fun _ => rfl
theorem ldHC : Statement .ldHC := of_append fun _ => rfl
theorem ldHD : Statement .ldHD := of_append fun _ => rfl
theorem ldHE : Statement .ldHE := of_append fun _ => rfl
theorem ldHH : Statement .ldHH := of_append fun _ => rfl
theorem ldHL : Statement .ldHL := of_append fun _ => rfl
theorem ldHIndHl : Statement .ldHIndHl := of_append fun _ => rfl
theorem ldHA : Statement .ldHA := of_append fun _ => rfl
theorem ldLB : Statement .ldLB := of_append fun _ => rfl
theorem ldLC : Statement .ldLC := of_append fun _ => rfl
theorem ldLD : Statement .ldLD := of_append fun _ => rfl
theorem ldLE : Statement .ldLE := of_append fun _ => rfl
theorem ldLH : Statement .ldLH := of_append fun _ => rfl
theorem ldLL : Statement .ldLL := of_append fun _ => rfl
theorem ldLIndHl : Statement .ldLIndHl := of_append fun _ => rfl
theorem ldLA : Statement .ldLA := of_append fun _ => rfl
theorem ldIndHlB : Statement .ldIndHlB := of_append fun _ => rfl
theorem ldIndHlC : Statement .ldIndHlC := of_append fun _ => rfl
theorem ldIndHlD : Statement .ldIndHlD := of_append fun _ => rfl
theorem ldIndHlE : Statement .ldIndHlE := of_append fun _ => rfl
theorem ldIndHlH : Statement .ldIndHlH := of_append fun _ => rfl
theorem ldIndHlL : Statement .ldIndHlL := of_append fun _ => rfl
theorem halt : Statement .halt := of_append fun _ => rfl
theorem ldIndHlA : Statement .ldIndHlA := of_append fun _ => rfl
theorem ldAB : Statement .ldAB := of_append fun _ => rfl
theorem ldAC : Statement .ldAC := of_append fun _ => rfl
theorem ldAD : Statement .ldAD := of_append fun _ => rfl
theorem ldAE : Statement .ldAE := of_append fun _ => rfl
theorem ldAH : Statement .ldAH := of_append fun _ => rfl
theorem ldAL : Statement .ldAL := of_append fun _ => rfl
theorem ldAIndHl : Statement .ldAIndHl := of_append fun _ => rfl
theorem ldAA : Statement .ldAA := of_append fun _ => rfl
theorem addAB : Statement .addAB := of_append fun _ => rfl
theorem addAC : Statement .addAC := of_append fun _ => rfl
theorem addAD : Statement .addAD := of_append fun _ => rfl
theorem addAE : Statement .addAE := of_append fun _ => rfl
theorem addAH : Statement .addAH := of_append fun _ => rfl
theorem addAL : Statement .addAL := of_append fun _ => rfl
theorem addAIndHl : Statement .addAIndHl := of_append fun _ => rfl
theorem addAA : Statement .addAA := of_append fun _ => rfl
theorem adcAB : Statement .adcAB := of_append fun _ => rfl
theorem adcAC : Statement .adcAC := of_append fun _ => rfl
theorem adcAD : Statement .adcAD := of_append fun _ => rfl
theorem adcAE : Statement .adcAE := of_append fun _ => rfl
theorem adcAH : Statement .adcAH := of_append fun _ => rfl
theorem adcAL : Statement .adcAL := of_append fun _ => rfl
theorem adcAIndHl : Statement .adcAIndHl := of_append fun _ => rfl
theorem adcAA : Statement .adcAA := of_append fun _ => rfl
theorem subAB : Statement .subAB := of_append fun _ => rfl
theorem subAC : Statement .subAC := of_append fun _ => rfl
theorem subAD : Statement .subAD := of_append fun _ => rfl
theorem subAE : Statement .subAE := of_append fun _ => rfl
theorem subAH : Statement .subAH := of_append fun _ => rfl
theorem subAL : Statement .subAL := of_append fun _ => rfl
theorem subAIndHl : Statement .subAIndHl := of_append fun _ => rfl
theorem subAA : Statement .subAA := of_append fun _ => rfl
theorem sbcAB : Statement .sbcAB := of_append fun _ => rfl
theorem sbcAC : Statement .sbcAC := of_append fun _ => rfl
theorem sbcAD : Statement .sbcAD := of_append fun _ => rfl
theorem sbcAE : Statement .sbcAE := of_append fun _ => rfl
theorem sbcAH : Statement .sbcAH := of_append fun _ => rfl
theorem sbcAL : Statement .sbcAL := of_append fun _ => rfl
theorem sbcAIndHl : Statement .sbcAIndHl := of_append fun _ => rfl
theorem sbcAA : Statement .sbcAA := of_append fun _ => rfl
theorem andAB : Statement .andAB := of_append fun _ => rfl
theorem andAC : Statement .andAC := of_append fun _ => rfl
theorem andAD : Statement .andAD := of_append fun _ => rfl
theorem andAE : Statement .andAE := of_append fun _ => rfl
theorem andAH : Statement .andAH := of_append fun _ => rfl
theorem andAL : Statement .andAL := of_append fun _ => rfl
theorem andAIndHl : Statement .andAIndHl := of_append fun _ => rfl
theorem andAA : Statement .andAA := of_append fun _ => rfl
theorem xorAB : Statement .xorAB := of_append fun _ => rfl
theorem xorAC : Statement .xorAC := of_append fun _ => rfl
theorem xorAD : Statement .xorAD := of_append fun _ => rfl
theorem xorAE : Statement .xorAE := of_append fun _ => rfl
theorem xorAH : Statement .xorAH := of_append fun _ => rfl
theorem xorAL : Statement .xorAL := of_append fun _ => rfl
theorem xorAIndHl : Statement .xorAIndHl := of_append fun _ => rfl
theorem xorAA : Statement .xorAA := of_append fun _ => rfl
theorem orAB : Statement .orAB := of_append fun _ => rfl
theorem orAC : Statement .orAC := of_append fun _ => rfl
theorem orAD : Statement .orAD := of_append fun _ => rfl
theorem orAE : Statement .orAE := of_append fun _ => rfl
theorem orAH : Statement .orAH := of_append fun _ => rfl
theorem orAL : Statement .orAL := of_append fun _ => rfl
theorem orAIndHl : Statement .orAIndHl := of_append fun _ => rfl
theorem orAA : Statement .orAA := of_append fun _ => rfl
theorem cpAB : Statement .cpAB := of_append fun _ => rfl
theorem cpAC : Statement .cpAC := of_append fun _ => rfl
theorem cpAD : Statement .cpAD := of_append fun _ => rfl
theorem cpAE : Statement .cpAE := of_append fun _ => rfl
theorem cpAH : Statement .cpAH := of_append fun _ => rfl
theorem cpAL : Statement .cpAL := of_append fun _ => rfl
theorem cpAIndHl : Statement .cpAIndHl := of_append fun _ => rfl
theorem cpAA : Statement .cpAA := of_append fun _ => rfl
theorem retNz : Statement .retNz := of_append fun _ => rfl
theorem popBc : Statement .popBc := of_append fun _ => rfl
theorem pushBc : Statement .pushBc := of_append fun _ => rfl
theorem rst00 : Statement .rst00 := of_append fun _ => rfl
theorem retZ : Statement .retZ := of_append fun _ => rfl
theorem ret : Statement .ret := of_append fun _ => rfl
theorem prefixCb : Statement .prefixCb := fun _ => ⟨rfl, fun h => absurd rfl h⟩
theorem rst08 : Statement .rst08 := of_append fun _ => rfl
theorem retNc : Statement .retNc := of_append fun _ => rfl
theorem popDe : Statement .popDe := of_append fun _ => rfl
theorem pushDe : Statement .pushDe := of_append fun _ => rfl
theorem rst10 : Statement .rst10 := of_append fun _ => rfl
theorem retC : Statement .retC := of_append fun _ => rfl
theorem reti : Statement .reti := of_append fun _ => rfl
theorem rst18 : Statement .rst18 := of_append fun _ => rfl
theorem popHl : Statement .popHl := of_append fun _ => rfl
theorem ldIndCA : Statement .ldIndCA := of_append fun _ => rfl
theorem pushHl : Statement .pushHl := of_append fun _ => rfl
theorem rst20 : Statement .rst20 := of_append fun _ => rfl
theorem jpHl : Statement .jpHl := of_append fun _ => rfl
theorem rst28 : Statement .rst28 := of_append fun _ => rfl
theorem popAf : Statement .popAf := of_append fun _ => rfl
theorem ldAIndC : Statement .ldAIndC := of_append fun _ => rfl
theorem di : Statement .di := of_append fun _ => rfl
theorem pushAf : Statement .pushAf := of_append fun _ => rfl
theorem rst30 : Statement .rst30 := of_append fun _ => rfl
theorem ldSpHl : Statement .ldSpHl := of_append fun _ => rfl
theorem ei : Statement .ei := of_append fun _ => rfl
theorem rst38 : Statement .rst38 := of_append fun _ => rfl
theorem rlcB : Statement .rlcB := of_append fun _ => rfl
theorem rlcC : Statement .rlcC := of_append fun _ => rfl
theorem rlcD : Statement .rlcD := of_append fun _ => rfl
theorem rlcE : Statement .rlcE := of_append fun _ => rfl
theorem rlcH : Statement .rlcH := of_append fun _ => rfl
theorem rlcL : Statement .rlcL := of_append fun _ => rfl
theorem rlcIndHl : Statement .rlcIndHl := of_append fun _ => rfl
theorem rlcA : Statement .rlcA := of_append fun _ => rfl
theorem rrcB : Statement .rrcB := of_append fun _ => rfl
theorem rrcC : Statement .rrcC := of_append fun _ => rfl
theorem rrcD : Statement .rrcD := of_append fun _ => rfl
theorem rrcE : Statement .rrcE := of_append fun _ => rfl
theorem rrcH : Statement .rrcH := of_append fun _ => rfl
theorem rrcL : Statement .rrcL := of_append fun _ => rfl
theorem rrcIndHl : Statement .rrcIndHl := of_append fun _ => rfl
theorem rrcA : Statement .rrcA := of_append fun _ => rfl
theorem rlB : Statement .rlB := of_append fun _ => rfl
theorem rlC : Statement .rlC := of_append fun _ => rfl
theorem rlD : Statement .rlD := of_append fun _ => rfl
theorem rlE : Statement .rlE := of_append fun _ => rfl
theorem rlH : Statement .rlH := of_append fun _ => rfl
theorem rlL : Statement .rlL := of_append fun _ => rfl
theorem rlIndHl : Statement .rlIndHl := of_append fun _ => rfl
theorem rlA : Statement .rlA := of_append fun _ => rfl
theorem rrB : Statement .rrB := of_append fun _ => rfl
theorem rrC : Statement .rrC := of_append fun _ => rfl
theorem rrD : Statement .rrD := of_append fun _ => rfl
theorem rrE : Statement .rrE := of_append fun _ => rfl
theorem rrH : Statement .rrH := of_append fun _ => rfl
theorem rrL : Statement .rrL := of_append fun _ => rfl
theorem rrIndHl : Statement .rrIndHl := of_append fun _ => rfl
theorem rrA : Statement .rrA := of_append fun _ => rfl
theorem slaB : Statement .slaB := of_append fun _ => rfl
theorem slaC : Statement .slaC := of_append fun _ => rfl
theorem slaD : Statement .slaD := of_append fun _ => rfl
theorem slaE : Statement .slaE := of_append fun _ => rfl
theorem slaH : Statement .slaH := of_append fun _ => rfl
theorem slaL : Statement .slaL := of_append fun _ => rfl
theorem slaIndHl : Statement .slaIndHl := of_append fun _ => rfl
theorem slaA : Statement .slaA := of_append fun _ => rfl
theorem sraB : Statement .sraB := of_append fun _ => rfl
theorem sraC : Statement .sraC := of_append fun _ => rfl
theorem sraD : Statement .sraD := of_append fun _ => rfl
theorem sraE : Statement .sraE := of_append fun _ => rfl
theorem sraH : Statement .sraH := of_append fun _ => rfl
theorem sraL : Statement .sraL := of_append fun _ => rfl
theorem sraIndHl : Statement .sraIndHl := of_append fun _ => rfl
theorem sraA : Statement .sraA := of_append fun _ => rfl
theorem swapB : Statement .swapB := of_append fun _ => rfl
theorem swapC : Statement .swapC := of_append fun _ => rfl
theorem swapD : Statement .swapD := of_append fun _ => rfl
theorem swapE : Statement .swapE := of_append fun _ => rfl
theorem swapH : Statement .swapH := of_append fun _ => rfl
theorem swapL : Statement .swapL := of_append fun _ => rfl
theorem swapIndHl : Statement .swapIndHl := of_append fun _ => rfl
theorem swapA : Statement .swapA := of_append fun _ => rfl
theorem srlB : Statement .srlB := of_append fun _ => rfl
theorem srlC : Statement .srlC := of_append fun _ => rfl
theorem srlD : Statement .srlD := of_append fun _ => rfl
theorem srlE : Statement .srlE := of_append fun _ => rfl
theorem srlH : Statement .srlH := of_append fun _ => rfl
theorem srlL : Statement .srlL := of_append fun _ => rfl
theorem srlIndHl : Statement .srlIndHl := of_append fun _ => rfl
theorem srlA : Statement .srlA := of_append fun _ => rfl
theorem bit0B : Statement .bit0B := of_append fun _ => rfl
theorem bit0C : Statement .bit0C := of_append fun _ => rfl
theorem bit0D : Statement .bit0D := of_append fun _ => rfl
theorem bit0E : Statement .bit0E := of_append fun _ => rfl
theorem bit0H : Statement .bit0H := of_append fun _ => rfl
theorem bit0L : Statement .bit0L := of_append fun _ => rfl
theorem bit0IndHl : Statement .bit0IndHl := of_append fun _ => rfl
theorem bit0A : Statement .bit0A := of_append fun _ => rfl
theorem bit1B : Statement .bit1B := of_append fun _ => rfl
theorem bit1C : Statement .bit1C := of_append fun _ => rfl
theorem bit1D : Statement .bit1D := of_append fun _ => rfl
theorem bit1E : Statement .bit1E := of_append fun _ => rfl
theorem bit1H : Statement .bit1H := of_append fun _ => rfl
theorem bit1L : Statement .bit1L := of_append fun _ => rfl
theorem bit1IndHl : Statement .bit1IndHl := of_append fun _ => rfl
theorem bit1A : Statement .bit1A := of_append fun _ => rfl
theorem bit2B : Statement .bit2B := of_append fun _ => rfl
theorem bit2C : Statement .bit2C := of_append fun _ => rfl
theorem bit2D : Statement .bit2D := of_append fun _ => rfl
theorem bit2E : Statement .bit2E := of_append fun _ => rfl
theorem bit2H : Statement .bit2H := of_append fun _ => rfl
theorem bit2L : Statement .bit2L := of_append fun _ => rfl
theorem bit2IndHl : Statement .bit2IndHl := of_append fun _ => rfl
theorem bit2A : Statement .bit2A := of_append fun _ => rfl
theorem bit3B : Statement .bit3B := of_append fun _ => rfl
theorem bit3C : Statement .bit3C := of_append fun _ => rfl
theorem bit3D : Statement .bit3D := of_append fun _ => rfl
theorem bit3E : Statement .bit3E := of_append fun _ => rfl
theorem bit3H : Statement .bit3H := of_append fun _ => rfl
theorem bit3L : Statement .bit3L := of_append fun _ => rfl
theorem bit3IndHl : Statement .bit3IndHl := of_append fun _ => rfl
theorem bit3A : Statement .bit3A := of_append fun _ => rfl
theorem bit4B : Statement .bit4B := of_append fun _ => rfl
theorem bit4C : Statement .bit4C := of_append fun _ => rfl
theorem bit4D : Statement .bit4D := of_append fun _ => rfl
theorem bit4E : Statement .bit4E := of_append fun _ => rfl
theorem bit4H : Statement .bit4H := of_append fun _ => rfl
theorem bit4L : Statement .bit4L := of_append fun _ => rfl
theorem bit4IndHl : Statement .bit4IndHl := of_append fun _ => rfl
theorem bit4A : Statement .bit4A := of_append fun _ => rfl
theorem bit5B : Statement .bit5B := of_append fun _ => rfl
theorem bit5C : Statement .bit5C := of_append fun _ => rfl
theorem bit5D : Statement .bit5D := of_append fun _ => rfl
theorem bit5E : Statement .bit5E := of_append fun _ => rfl
theorem bit5H : Statement .bit5H := of_append fun _ => rfl
theorem bit5L : Statement .bit5L := of_append fun _ => rfl
theorem bit5IndHl : Statement .bit5IndHl := of_append fun _ => rfl
theorem bit5A : Statement .bit5A := of_append fun _ => rfl
theorem bit6B : Statement .bit6B := of_append fun _ => rfl
theorem bit6C : Statement .bit6C := of_append fun _ => rfl
theorem bit6D : Statement .bit6D := of_append fun _ => rfl
theorem bit6E : Statement .bit6E := of_append fun _ => rfl
theorem bit6H : Statement .bit6H := of_append fun _ => rfl
theorem bit6L : Statement .bit6L := of_append fun _ => rfl
theorem bit6IndHl : Statement .bit6IndHl := of_append fun _ => rfl
theorem bit6A : Statement .bit6A := of_append fun _ => rfl
theorem bit7B : Statement .bit7B := of_append fun _ => rfl
theorem bit7C : Statement .bit7C := of_append fun _ => rfl
theorem bit7D : Statement .bit7D := of_append fun _ => rfl
theorem bit7E : Statement .bit7E := of_append fun _ => rfl
theorem bit7H : Statement .bit7H := of_append fun _ => rfl
theorem bit7L : Statement .bit7L := of_append fun _ => rfl
theorem bit7IndHl : Statement .bit7IndHl := of_append fun _ => rfl
theorem bit7A : Statement .bit7A := of_append fun _ => rfl
theorem res0B : Statement .res0B := of_append fun _ => rfl
theorem res0C : Statement .res0C := of_append fun _ => rfl
theorem res0D : Statement .res0D := of_append fun _ => rfl
theorem res0E : Statement .res0E := of_append fun _ => rfl
theorem res0H : Statement .res0H := of_append fun _ => rfl
theorem res0L : Statement .res0L := of_append fun _ => rfl
theorem res0IndHl : Statement .res0IndHl := of_append fun _ => rfl
theorem res0A : Statement .res0A := of_append fun _ => rfl
theorem res1B : Statement .res1B := of_append fun _ => rfl
theorem res1C : Statement .res1C := of_append fun _ => rfl
theorem res1D : Statement .res1D := of_append fun _ => rfl
theorem res1E : Statement .res1E := of_append fun _ => rfl
theorem res1H : Statement .res1H := of_append fun _ => rfl
theorem res1L : Statement .res1L := of_append fun _ => rfl
theorem res1IndHl : Statement .res1IndHl := of_append fun _ => rfl
theorem res1A : Statement .res1A := of_append fun _ => rfl
theorem res2B : Statement .res2B := of_append fun _ => rfl
theorem res2C : Statement .res2C := of_append fun _ => rfl
theorem res2D : Statement .res2D := of_append fun _ => rfl
theorem res2E : Statement .res2E := of_append fun _ => rfl
theorem res2H : Statement .res2H := of_append fun _ => rfl
theorem res2L : Statement .res2L := of_append fun _ => rfl
theorem res2IndHl : Statement .res2IndHl := of_append fun _ => rfl
theorem res2A : Statement .res2A := of_append fun _ => rfl
theorem res3B : Statement .res3B := of_append fun _ => rfl
theorem res3C : Statement .res3C := of_append fun _ => rfl
theorem res3D : Statement .res3D := of_append fun _ => rfl
theorem res3E : Statement .res3E := of_append fun _ => rfl
theorem res3H : Statement .res3H := of_append fun _ => rfl
theorem res3L : Statement .res3L := of_append fun _ => rfl
theorem res3IndHl : Statement .res3IndHl := of_append fun _ => rfl
theorem res3A : Statement .res3A := of_append fun _ => rfl
theorem res4B : Statement .res4B := of_append fun _ => rfl
theorem res4C : Statement .res4C := of_append fun _ => rfl
theorem res4D : Statement .res4D := of_append fun _ => rfl
theorem res4E : Statement .res4E := of_append fun _ => rfl
theorem res4H : Statement .res4H := of_append fun _ => rfl
theorem res4L : Statement .res4L := of_append fun _ => rfl
theorem res4IndHl : Statement .res4IndHl := of_append fun _ => rfl
theorem res4A : Statement .res4A := of_append fun _ => rfl
theorem res5B : Statement .res5B := of_append fun _ => rfl
theorem res5C : Statement .res5C := of_append fun _ => rfl
theorem res5D : Statement .res5D := of_append fun _ => rfl
theorem res5E : Statement .res5E := of_append fun _ => rfl
theorem res5H : Statement .res5H := of_append fun _ => rfl
theorem res5L : Statement .res5L := of_append fun _ => rfl
theorem res5IndHl : Statement .res5IndHl := of_append fun _ => rfl
theorem res5A : Statement .res5A := of_append fun _ => rfl
theorem res6B : Statement .res6B := of_append fun _ => rfl
theorem res6C : Statement .res6C := of_append fun _ => rfl
theorem res6D : Statement .res6D := of_append fun _ => rfl
theorem res6E : Statement .res6E := of_append fun _ => rfl
theorem res6H : Statement .res6H := of_append fun _ => rfl
theorem res6L : Statement .res6L := of_append fun _ => rfl
theorem res6IndHl : Statement .res6IndHl := of_append fun _ => rfl
theorem res6A : Statement .res6A := of_append fun _ => rfl
theorem res7B : Statement .res7B := of_append fun _ => rfl
theorem res7C : Statement .res7C := of_append fun _ => rfl
theorem res7D : Statement .res7D := of_append fun _ => rfl
theorem res7E : Statement .res7E := of_append fun _ => rfl
theorem res7H : Statement .res7H := of_append fun _ => rfl
theorem res7L : Statement .res7L := of_append fun _ => rfl
theorem res7IndHl : Statement .res7IndHl := of_append fun _ => rfl
theorem res7A : Statement .res7A := of_append fun _ => rfl
theorem set0B : Statement .set0B := of_append fun _ => rfl
theorem set0C : Statement .set0C := of_append fun _ => rfl
theorem set0D : Statement .set0D := of_append fun _ => rfl
theorem set0E : Statement .set0E := of_append fun _ => rfl
theorem set0H : Statement .set0H := of_append fun _ => rfl
theorem set0L : Statement .set0L := of_append fun _ => rfl
theorem set0IndHl : Statement .set0IndHl := of_append fun _ => rfl
theorem set0A : Statement .set0A := of_append fun _ => rfl
theorem set1B : Statement .set1B := of_append fun _ => rfl
theorem set1C : Statement .set1C := of_append fun _ => rfl
theorem set1D : Statement .set1D := of_append fun _ => rfl
theorem set1E : Statement .set1E := of_append fun _ => rfl
theorem set1H : Statement .set1H := of_append fun _ => rfl
theorem set1L : Statement .set1L := of_append fun _ => rfl
theorem set1IndHl : Statement .set1IndHl := of_append fun _ => rfl
theorem set1A : Statement .set1A := of_append fun _ => rfl
theorem set2B : Statement .set2B := of_append fun _ => rfl
theorem set2C : Statement .set2C := of_append fun _ => rfl
theorem set2D : Statement .set2D := of_append fun _ => rfl
theorem set2E : Statement .set2E := of_append fun _ => rfl
theorem set2H : Statement .set2H := of_append fun _ => rfl
theorem set2L : Statement .set2L := of_append fun _ => rfl
theorem set2IndHl : Statement .set2IndHl := of_append fun _ => rfl
theorem set2A : Statement .set2A := of_append fun _ => rfl
theorem set3B : Statement .set3B := of_append fun _ => rfl
theorem set3C : Statement .set3C := of_append fun _ => rfl
theorem set3D : Statement .set3D := of_append fun _ => rfl
theorem set3E : Statement .set3E := of_append fun _ => rfl
theorem set3H : Statement .set3H := of_append fun _ => rfl
theorem set3L : Statement .set3L := of_append fun _ => rfl
theorem set3IndHl : Statement .set3IndHl := of_append fun _ => rfl
theorem set3A : Statement .set3A := of_append fun _ => rfl
theorem set4B : Statement .set4B := of_append fun _ => rfl
theorem set4C : Statement .set4C := of_append fun _ => rfl
theorem set4D : Statement .set4D := of_append fun _ => rfl
theorem set4E : Statement .set4E := of_append fun _ => rfl
theorem set4H : Statement .set4H := of_append fun _ => rfl
theorem set4L : Statement .set4L := of_append fun _ => rfl
theorem set4IndHl : Statement .set4IndHl := of_append fun _ => rfl
theorem set4A : Statement .set4A := of_append fun _ => rfl
theorem set5B : Statement .set5B := of_append fun _ => rfl
theorem set5C : Statement .set5C := of_append fun _ => rfl
theorem set5D : Statement .set5D := of_append fun _ => rfl
theorem set5E : Statement .set5E := of_append fun _ => rfl
theorem set5H : Statement .set5H := of_append fun _ => rfl
theorem set5L : Statement .set5L := of_append fun _ => rfl
theorem set5IndHl : Statement .set5IndHl := of_append fun _ => rfl
theorem set5A : Statement .set5A := of_append fun _ => rfl
theorem set6B : Statement .set6B := of_append fun _ => rfl
theorem set6C : Statement .set6C := of_append fun _ => rfl
theorem set6D : Statement .set6D := of_append fun _ => rfl
theorem set6E : Statement .set6E := of_append fun _ => rfl
theorem set6H : Statement .set6H := of_append fun _ => rfl
theorem set6L : Statement .set6L := of_append fun _ => rfl
theorem set6IndHl : Statement .set6IndHl := of_append fun _ => rfl
theorem set6A : Statement .set6A := of_append fun _ => rfl
theorem set7B : Statement .set7B := of_append fun _ => rfl
theorem set7C : Statement .set7C := of_append fun _ => rfl
theorem set7D : Statement .set7D := of_append fun _ => rfl
theorem set7E : Statement .set7E := of_append fun _ => rfl
theorem set7H : Statement .set7H := of_append fun _ => rfl
theorem set7L : Statement .set7L := of_append fun _ => rfl
theorem set7IndHl : Statement .set7IndHl := of_append fun _ => rfl
theorem set7A : Statement .set7A := of_append fun _ => rfl

end Sys2Proof.Laws.RoundTrip
end

