-- ==== Sys2Proof/Laws/Decode.lean ====
section
/-! SUPPORT. The two decode tables against the encoder, one lemma each: what a row of the base table and of the CB table says of
the instructions it makes. -/

namespace Sys2Proof

/-- A property of all bytes is a property of the 256 numerals. -/
theorem byte_cases {P : Byte → Prop} (h : ∀ n, n < 256 → P (BitVec.ofNat 8 n)) : ∀ b, P b := fun b => by
  simpa using h b.toNat b.isLt

/-- An instruction that a table row makes: well formed, and neither of the two that the decoder treats apart. -/
structure Instr.Ordinary (i : Instr) (bytes : List Byte) : Prop where
  wellFormed : i.wellFormed = true
  notStop : i ≠ .stop
  notPrefix : i ≠ .prefixCb
  encoded : encode i = bytes

/-- What a row of the base table says of the instructions it makes. -/
def BaseRow.Encodes (op : Byte) : BaseRow → Prop
  | .plain i => i.Ordinary [op]
  | .imm8 mk => ∀ n, (mk n).Ordinary [op, n]
  | .imm16 mk => ∀ nn, (mk nn).Ordinary [op, loByte nn, hiByte nn]
  | .stop => op = 0x10
  | .cb => op = 0xCB

theorem BaseRow.encodes_plain {op : Byte} {i : Instr} (h : i.Ordinary [op]) : BaseRow.Encodes op (.plain i) := h

theorem BaseRow.encodes_imm8 {op : Byte} {mk : Byte → Instr} (h : ∀ n, (mk n).Ordinary [op, n]) :
    BaseRow.Encodes op (.imm8 mk) := h

theorem BaseRow.encodes_imm16 {op : Byte} {mk : Word → Instr} (h : ∀ nn, (mk nn).Ordinary [op, loByte nn, hiByte nn]) :
    BaseRow.Encodes op (.imm16 mk) := h

theorem BaseRow.encodes_stop : BaseRow.Encodes 0x10 .stop := rfl

theorem BaseRow.encodes_cb : BaseRow.Encodes 0xCB .cb := rfl

/-- Every row of the base table. -/
theorem baseRow_encodes : ∀ op, (baseRow op).Encodes op :=
  byte_cases fun n hn => by
    interval_cases n <;> first
      | exact BaseRow.encodes_plain ⟨rfl, nofun, nofun, rfl⟩
      | exact BaseRow.encodes_imm8 fun _ => ⟨rfl, nofun, nofun, rfl⟩
      | exact BaseRow.encodes_imm16 fun _ => ⟨rfl, nofun, nofun, rfl⟩
      | exact BaseRow.encodes_stop
      | exact BaseRow.encodes_cb

/-- Every row of the CB table. -/
theorem decodeCb_encodes : ∀ sub, (decodeCb sub).Ordinary [0xCB, sub] :=
  byte_cases fun n hn => by interval_cases n <;> exact ⟨rfl, nofun, nofun, rfl⟩

end Sys2Proof
end

