-- ==== Sys2Proof/Laws/Ops.lean ====
section
/-! SUPPORT. What each sequencing operation can answer: one inversion lemma for a next state, one rule for a property of
every state an outcome ends in (`endsIn`). No later proof unfolds these operations. -/

namespace Sys2Proof.Machine

/-! ### A next state -/

@[simp] theorem finish_next {s t : State} {n : Word} : finish s n = .next t ↔ t = advance s n := by
  simp [finish, eq_comm]

theorem raise_not_next {sub : Option Byte} {s t : State} {e : BusFault} : raise sub s e ≠ .next t := by
  simp [raise]

/-- A read completes exactly when the access does and the rest does. -/
theorem readThen_next {sub : Option Byte} {s t : State} {address : Word} {rest : Byte → Result} :
    readThen sub s address rest = .next t ↔ ∃ v, busRead s address = .ok v ∧ rest v = .next t := by
  unfold readThen
  cases busRead s address <;> simp [raise]

/-- A write completes exactly when the access does and the rest does. -/
theorem writeThen_next {sub : Option Byte} {s t : State} {address : Word} {v : Byte} {rest : State → Result} :
    writeThen sub s address v rest = .next t ↔ ∃ u, busWrite s address v = .ok u ∧ rest u = .next t := by
  unfold writeThen
  cases busWrite s address v <;> simp [raise]

theorem push16_next {s t : State} {v : Word} {rest : State → Result} :
    push16 s v rest = .next t ↔
      ∃ s1 s2, busWrite s (s.sp - 1) (hiByte v) = .ok s1 ∧ busWrite s1 (s.sp - 2) (loByte v) = .ok s2 ∧
        rest (setSp s2 (s.sp - 2)) = .next t := by
  simp only [push16, writeThen_next]
  exact ⟨fun ⟨s1, h1, s2, h2, h⟩ => ⟨s1, s2, h1, h2, h⟩, fun ⟨s1, s2, h1, h2, h⟩ => ⟨s1, h1, s2, h2, h⟩⟩

theorem pop16_next {s t : State} {rest : State → Word → Result} :
    pop16 s rest = .next t ↔
      ∃ lo hi, busRead s s.sp = .ok lo ∧ busRead s (s.sp + 1) = .ok hi ∧
        rest (setSp s (s.sp + 2)) (joinBytes hi lo) = .next t := by
  simp only [pop16, readThen_next]
  exact ⟨fun ⟨lo, h1, hi, h2, h⟩ => ⟨lo, hi, h1, h2, h⟩, fun ⟨lo, hi, h1, h2, h⟩ => ⟨lo, h1, hi, h2, h⟩⟩

/-- The byte an operand of field `r` holds: the register, or the byte at HL. -/
def targetByte (s : State) : Target → Except BusFault Byte
  | .reg r => .ok (reg8 s r)
  | .indHl => busRead s (hlAddress s)

/-- The state after a write of an operand of field `r`. -/
def targetWritten (s : State) (v : Byte) : Target → Except BusFault State
  | .reg r => .ok (setReg8 s r v)
  | .indHl => busWrite s (hlAddress s) v

theorem readTarget_next {sub : Option Byte} {s t : State} {r : Target} {rest : Byte → Result} :
    readTarget sub s r rest = .next t ↔ ∃ v, targetByte s r = .ok v ∧ rest v = .next t := by
  cases r <;> simp [readTarget, targetByte, readThen_next]

theorem writeTarget_next {sub : Option Byte} {s t : State} {r : Target} {v : Byte} {rest : State → Result} :
    writeTarget sub s r v rest = .next t ↔ ∃ u, targetWritten s v r = .ok u ∧ rest u = .next t := by
  cases r <;> simp [writeTarget, targetWritten, writeThen_next]

/-! ### A completed access, as an equation -/

theorem readThen_ok {sub : Option Byte} {s : State} {address : Word} {v : Byte} {rest : Byte → Result}
    (h : busRead s address = .ok v) : readThen sub s address rest = rest v := by
  simp [readThen, h]

theorem readThen_error {sub : Option Byte} {s : State} {address : Word} {e : BusFault} {rest : Byte → Result}
    (h : busRead s address = .error e) : readThen sub s address rest = raise sub s e := by
  simp [readThen, h]

theorem writeThen_ok {sub : Option Byte} {s u : State} {address : Word} {v : Byte} {rest : State → Result}
    (h : busWrite s address v = .ok u) : writeThen sub s address v rest = rest u := by
  simp [writeThen, h]

theorem writeThen_error {sub : Option Byte} {s : State} {address : Word} {v : Byte} {e : BusFault}
    {rest : State → Result} (h : busWrite s address v = .error e) : writeThen sub s address v rest = raise sub s e := by
  simp [writeThen, h]

/-! ### The state an outcome leaves -/

/-- The state a taken fault leaves is the state before it with the record written (60_exceptions.md R306-R308). -/
theorem leftBy_takeFault (opcode sub : Option Byte) (s : State) (e : BusFault) :
    leftBy (takeFault opcode sub s e) =
      some { s with
        fault := some { kind := e.kind, pc := s.pc, opcode := opcode, sub := sub, address := e.address,
                        bankOffset := e.bankOffset } } := by
  cases e with
  | mk kind address bankOffset => cases kind <;> rfl

theorem endsIn_takeFault {P Q : State → Prop} {opcode sub : Option Byte} {s : State} {e : BusFault}
    (h : ∀ r, Q { s with fault := some r }) : endsIn P Q (.fault (takeFault opcode sub s e)) := by
  intro left hl
  rw [leftBy_takeFault] at hl
  exact (Option.some.inj hl) ▸ h _

theorem endsIn_readThen {P Q : State → Prop} {sub : Option Byte} {s : State} {address : Word} {rest : Byte → Result}
    (hfault : ∀ r, Q { s with fault := some r }) (h : ∀ v, busRead s address = .ok v → endsIn P Q (rest v)) :
    endsIn P Q (readThen sub s address rest) := by
  unfold readThen
  split
  · exact h _ ‹_›
  · exact endsIn_takeFault hfault

theorem endsIn_writeThen {P Q : State → Prop} {sub : Option Byte} {s : State} {address : Word} {v : Byte}
    {rest : State → Result} (hfault : ∀ r, Q { s with fault := some r })
    (h : ∀ u, busWrite s address v = .ok u → endsIn P Q (rest u)) : endsIn P Q (writeThen sub s address v rest) := by
  unfold writeThen
  split
  · exact h _ ‹_›
  · exact endsIn_takeFault hfault

theorem endsIn_readTarget {P Q : State → Prop} {sub : Option Byte} {s : State} {r : Target} {rest : Byte → Result}
    (hfault : ∀ r, Q { s with fault := some r }) (h : ∀ v, targetByte s r = .ok v → endsIn P Q (rest v)) :
    endsIn P Q (readTarget sub s r rest) := by
  cases r with
  | reg r => exact h _ rfl
  | indHl => exact endsIn_readThen hfault h

theorem endsIn_writeTarget {P Q : State → Prop} {sub : Option Byte} {s : State} {r : Target} {v : Byte}
    {rest : State → Result} (hfault : ∀ r, Q { s with fault := some r })
    (h : ∀ u, targetWritten s v r = .ok u → endsIn P Q (rest u)) : endsIn P Q (writeTarget sub s r v rest) := by
  cases r with
  | reg r => exact h _ rfl
  | indHl => exact endsIn_writeThen hfault h

end Sys2Proof.Machine
end

