-- ==== Sys2Proof/Laws/Exec.lean ====
section
/-! SUPPORT. The instructions by form: which shared operation each of the 502 constructors runs. A proof about every
instruction is a case analysis of `Meaning`, whose cases are the rules of 40_loads.md to 46_system.md. -/

namespace Sys2Proof.Machine

/-- `Meaning s i o`: the instruction `i` is of one form of the spec, and `o` is what that form's operation answers in `s`. -/
inductive Meaning (s : State) : Instr → Result → Prop
  | ldRegReg (dst src : Reg8) : Meaning s (Instr.ldRegReg dst src) (ldRegReg s dst src)
  | ldRegImm (dst : Reg8) (n : Byte) : Meaning s (Instr.ldRegImm dst n) (ldRegImm s dst n)
  | ldRegInd (dst : Reg8) : Meaning s (Instr.ldRegInd dst) (ldRegInd s dst)
  | ldIndReg (src : Reg8) : Meaning s (Instr.ldIndReg src) (ldIndReg s src)
  | ldIndHlN (n : Byte) : Meaning s (Instr.ldIndHlN n) (storeThenFinish s (hlAddress s) n 2)
  | ldAIndBc : Meaning s .ldAIndBc (loadAThenFinish s (pair s .bc) 1)
  | ldAIndDe : Meaning s .ldAIndDe (loadAThenFinish s (pair s .de) 1)
  | ldIndBcA : Meaning s .ldIndBcA (storeThenFinish s (pair s .bc) s.a 1)
  | ldIndDeA : Meaning s .ldIndDeA (storeThenFinish s (pair s .de) s.a 1)
  | ldAIndNn (nn : Word) : Meaning s (Instr.ldAIndNn nn) (loadAThenFinish s nn 3)
  | ldIndNnA (nn : Word) : Meaning s (Instr.ldIndNnA nn) (storeThenFinish s nn s.a 3)
  | ldhAIndN (n : Byte) : Meaning s (Instr.ldhAIndN n) (loadAThenFinish s (highPage n) 2)
  | ldhIndNA (n : Byte) : Meaning s (Instr.ldhIndNA n) (storeThenFinish s (highPage n) s.a 2)
  | ldAIndC : Meaning s .ldAIndC (loadAThenFinish s (highPage s.c) 1)
  | ldIndCA : Meaning s .ldIndCA (storeThenFinish s (highPage s.c) s.a 1)
  | ldIndHlIncA : Meaning s .ldIndHlIncA (storeStep s 1)
  | ldAIndHlInc : Meaning s .ldAIndHlInc (loadStep s 1)
  | ldIndHlDecA : Meaning s .ldIndHlDecA (storeStep s (-1))
  | ldAIndHlDec : Meaning s .ldAIndHlDec (loadStep s (-1))
  | ldPairImm (p : Pair) (nn : Word) : Meaning s (Instr.ldPairImm p nn) (ldPairImm s p nn)
  | ldIndNnSp (nn : Word) : Meaning s (Instr.ldIndNnSp nn) (storeSp s nn)
  | ldSpHl : Meaning s .ldSpHl (ldSpHl s)
  | ldHlSpE (e : Byte) : Meaning s (Instr.ldHlSpE e) (ldHlSpE s e)
  | pushPair (q : StackPair) : Meaning s (Instr.pushPair q) (pushPair s q)
  | popPair (q : StackPair) : Meaning s (Instr.popPair q) (popPair s q)
  | aluReg (op : AluOp) (src : Reg8) : Meaning s (Instr.aluReg op src) (aluReg s op src)
  | aluInd (op : AluOp) : Meaning s (Instr.aluInd op) (aluInd s op)
  | aluImm (op : AluOp) (n : Byte) : Meaning s (Instr.aluImm op n) (aluImm s op n)
  | incReg (r : Reg8) : Meaning s (Instr.incReg r) (incReg s r)
  | incIndHl : Meaning s .incIndHl (incInd s)
  | decReg (r : Reg8) : Meaning s (Instr.decReg r) (decReg s r)
  | decIndHl : Meaning s .decIndHl (decInd s)
  | daa : Meaning s .daa (decimalAdjust s)
  | cpl : Meaning s .cpl (complementA s)
  | scf : Meaning s .scf (setCarry s)
  | ccf : Meaning s .ccf (complementCarry s)
  | addHlPair (p : Pair) : Meaning s (Instr.addHlPair p) (addHlPair s p)
  | incPair (p : Pair) : Meaning s (Instr.incPair p) (stepPair s p 1)
  | decPair (p : Pair) : Meaning s (Instr.decPair p) (stepPair s p (-1))
  | addSpE (e : Byte) : Meaning s (Instr.addSpE e) (addSpE s e)
  | rlca : Meaning s .rlca (rotateA s .rlc)
  | rrca : Meaning s .rrca (rotateA s .rrc)
  | rla : Meaning s .rla (rotateA s .rl)
  | rra : Meaning s .rra (rotateA s .rr)
  | cbRot (op : RotOp) (t : Target) : Meaning s (Instr.cbRot op t) (rotateTarget s op t)
  | cbBit (b : BitVec 3) (t : Target) : Meaning s (Instr.cbBit b t) (bitTarget s b t)
  | cbRes (b : BitVec 3) (t : Target) : Meaning s (Instr.cbRes b t) (resTarget s b t)
  | cbSet (b : BitVec 3) (t : Target) : Meaning s (Instr.cbSet b t) (setTarget s b t)
  | jpNn (nn : Word) : Meaning s (Instr.jpNn nn) (jump s nn)
  | jpCond (cc : Cond) (nn : Word) : Meaning s (Instr.jpCond cc nn) (jumpIf s cc nn)
  | jpHl : Meaning s .jpHl (jump s (hlAddress s))
  | jrE (e : Byte) : Meaning s (Instr.jrE e) (jumpRelative s e)
  | jrCond (cc : Cond) (e : Byte) : Meaning s (Instr.jrCond cc e) (jumpRelativeIf s cc e)
  | callNn (nn : Word) : Meaning s (Instr.callNn nn) (call s nn 3)
  | callCond (cc : Cond) (nn : Word) : Meaning s (Instr.callCond cc nn) (callIf s cc nn)
  | ret : Meaning s .ret (ret s)
  | retCond (cc : Cond) : Meaning s (Instr.retCond cc) (retIf s cc)
  | reti : Meaning s .reti (retEnable s)
  | rst (k : BitVec 3) : Meaning s (Instr.rst k) (call s (8 * k.setWidth 16) 1)
  | nop : Meaning s .nop (finish s 1)
  | stop : Meaning s .stop (stop s)
  | halt : Meaning s .halt (halt s)
  | di : Meaning s .di (writeIme s false)
  | ei : Meaning s .ei (writeIme s true)
  | prefixCb : Meaning s .prefixCb (dispatchPrefix s)
  | illegal (op : Byte) : Meaning s (Instr.illegal op) (illegal s op)

/-- Every instruction means what its form's operation answers. -/
theorem exec_meaning (s : State) : (i : Instr) → Meaning s i (exec i s)
  | .ldBcNn nn => .ldPairImm .bc nn
  | .ldBN n => .ldRegImm .b n
  | .ldIndNnSp nn => .ldIndNnSp nn
  | .ldCN n => .ldRegImm .c n
  | .ldDeNn nn => .ldPairImm .de nn
  | .ldDN n => .ldRegImm .d n
  | .jrE e => .jrE e
  | .ldEN n => .ldRegImm .e n
  | .jrNzE e => .jrCond .nz e
  | .ldHlNn nn => .ldPairImm .hl nn
  | .ldHN n => .ldRegImm .h n
  | .jrZE e => .jrCond .z e
  | .ldLN n => .ldRegImm .l n
  | .jrNcE e => .jrCond .nc e
  | .ldSpNn nn => .ldPairImm .sp nn
  | .ldIndHlN n => .ldIndHlN n
  | .jrCE e => .jrCond .c e
  | .ldAN n => .ldRegImm .a n
  | .jpNzNn nn => .jpCond .nz nn
  | .jpNn nn => .jpNn nn
  | .callNzNn nn => .callCond .nz nn
  | .addAN n => .aluImm .add n
  | .jpZNn nn => .jpCond .z nn
  | .callZNn nn => .callCond .z nn
  | .callNn nn => .callNn nn
  | .adcAN n => .aluImm .adc n
  | .jpNcNn nn => .jpCond .nc nn
  | .illegal op => .illegal op
  | .callNcNn nn => .callCond .nc nn
  | .subAN n => .aluImm .sub n
  | .jpCNn nn => .jpCond .c nn
  | .callCNn nn => .callCond .c nn
  | .sbcAN n => .aluImm .sbc n
  | .ldhIndNA n => .ldhIndNA n
  | .andAN n => .aluImm .and n
  | .addSpE e => .addSpE e
  | .ldIndNnA nn => .ldIndNnA nn
  | .xorAN n => .aluImm .xor n
  | .ldhAIndN n => .ldhAIndN n
  | .orAN n => .aluImm .or n
  | .ldHlSpE e => .ldHlSpE e
  | .ldAIndNn nn => .ldAIndNn nn
  | .cpAN n => .aluImm .cp n
  | .nop => .nop
  | .ldIndBcA => .ldIndBcA
  | .incBc => .incPair .bc
  | .incB => .incReg .b
  | .decB => .decReg .b
  | .rlca => .rlca
  | .addHlBc => .addHlPair .bc
  | .ldAIndBc => .ldAIndBc
  | .decBc => .decPair .bc
  | .incC => .incReg .c
  | .decC => .decReg .c
  | .rrca => .rrca
  | .stop => .stop
  | .ldIndDeA => .ldIndDeA
  | .incDe => .incPair .de
  | .incD => .incReg .d
  | .decD => .decReg .d
  | .rla => .rla
  | .addHlDe => .addHlPair .de
  | .ldAIndDe => .ldAIndDe
  | .decDe => .decPair .de
  | .incE => .incReg .e
  | .decE => .decReg .e
  | .rra => .rra
  | .ldIndHlIncA => .ldIndHlIncA
  | .incHl => .incPair .hl
  | .incH => .incReg .h
  | .decH => .decReg .h
  | .daa => .daa
  | .addHlHl => .addHlPair .hl
  | .ldAIndHlInc => .ldAIndHlInc
  | .decHl => .decPair .hl
  | .incL => .incReg .l
  | .decL => .decReg .l
  | .cpl => .cpl
  | .ldIndHlDecA => .ldIndHlDecA
  | .incSp => .incPair .sp
  | .incIndHl => .incIndHl
  | .decIndHl => .decIndHl
  | .scf => .scf
  | .addHlSp => .addHlPair .sp
  | .ldAIndHlDec => .ldAIndHlDec
  | .decSp => .decPair .sp
  | .incA => .incReg .a
  | .decA => .decReg .a
  | .ccf => .ccf
  | .ldBB => .ldRegReg .b .b
  | .ldBC => .ldRegReg .b .c
  | .ldBD => .ldRegReg .b .d
  | .ldBE => .ldRegReg .b .e
  | .ldBH => .ldRegReg .b .h
  | .ldBL => .ldRegReg .b .l
  | .ldBIndHl => .ldRegInd .b
  | .ldBA => .ldRegReg .b .a
  | .ldCB => .ldRegReg .c .b
  | .ldCC => .ldRegReg .c .c
  | .ldCD => .ldRegReg .c .d
  | .ldCE => .ldRegReg .c .e
  | .ldCH => .ldRegReg .c .h
  | .ldCL => .ldRegReg .c .l
  | .ldCIndHl => .ldRegInd .c
  | .ldCA => .ldRegReg .c .a
  | .ldDB => .ldRegReg .d .b
  | .ldDC => .ldRegReg .d .c
  | .ldDD => .ldRegReg .d .d
  | .ldDE => .ldRegReg .d .e
  | .ldDH => .ldRegReg .d .h
  | .ldDL => .ldRegReg .d .l
  | .ldDIndHl => .ldRegInd .d
  | .ldDA => .ldRegReg .d .a
  | .ldEB => .ldRegReg .e .b
  | .ldEC => .ldRegReg .e .c
  | .ldED => .ldRegReg .e .d
  | .ldEE => .ldRegReg .e .e
  | .ldEH => .ldRegReg .e .h
  | .ldEL => .ldRegReg .e .l
  | .ldEIndHl => .ldRegInd .e
  | .ldEA => .ldRegReg .e .a
  | .ldHB => .ldRegReg .h .b
  | .ldHC => .ldRegReg .h .c
  | .ldHD => .ldRegReg .h .d
  | .ldHE => .ldRegReg .h .e
  | .ldHH => .ldRegReg .h .h
  | .ldHL => .ldRegReg .h .l
  | .ldHIndHl => .ldRegInd .h
  | .ldHA => .ldRegReg .h .a
  | .ldLB => .ldRegReg .l .b
  | .ldLC => .ldRegReg .l .c
  | .ldLD => .ldRegReg .l .d
  | .ldLE => .ldRegReg .l .e
  | .ldLH => .ldRegReg .l .h
  | .ldLL => .ldRegReg .l .l
  | .ldLIndHl => .ldRegInd .l
  | .ldLA => .ldRegReg .l .a
  | .ldIndHlB => .ldIndReg .b
  | .ldIndHlC => .ldIndReg .c
  | .ldIndHlD => .ldIndReg .d
  | .ldIndHlE => .ldIndReg .e
  | .ldIndHlH => .ldIndReg .h
  | .ldIndHlL => .ldIndReg .l
  | .halt => .halt
  | .ldIndHlA => .ldIndReg .a
  | .ldAB => .ldRegReg .a .b
  | .ldAC => .ldRegReg .a .c
  | .ldAD => .ldRegReg .a .d
  | .ldAE => .ldRegReg .a .e
  | .ldAH => .ldRegReg .a .h
  | .ldAL => .ldRegReg .a .l
  | .ldAIndHl => .ldRegInd .a
  | .ldAA => .ldRegReg .a .a
  | .addAB => .aluReg .add .b
  | .addAC => .aluReg .add .c
  | .addAD => .aluReg .add .d
  | .addAE => .aluReg .add .e
  | .addAH => .aluReg .add .h
  | .addAL => .aluReg .add .l
  | .addAIndHl => .aluInd .add
  | .addAA => .aluReg .add .a
  | .adcAB => .aluReg .adc .b
  | .adcAC => .aluReg .adc .c
  | .adcAD => .aluReg .adc .d
  | .adcAE => .aluReg .adc .e
  | .adcAH => .aluReg .adc .h
  | .adcAL => .aluReg .adc .l
  | .adcAIndHl => .aluInd .adc
  | .adcAA => .aluReg .adc .a
  | .subAB => .aluReg .sub .b
  | .subAC => .aluReg .sub .c
  | .subAD => .aluReg .sub .d
  | .subAE => .aluReg .sub .e
  | .subAH => .aluReg .sub .h
  | .subAL => .aluReg .sub .l
  | .subAIndHl => .aluInd .sub
  | .subAA => .aluReg .sub .a
  | .sbcAB => .aluReg .sbc .b
  | .sbcAC => .aluReg .sbc .c
  | .sbcAD => .aluReg .sbc .d
  | .sbcAE => .aluReg .sbc .e
  | .sbcAH => .aluReg .sbc .h
  | .sbcAL => .aluReg .sbc .l
  | .sbcAIndHl => .aluInd .sbc
  | .sbcAA => .aluReg .sbc .a
  | .andAB => .aluReg .and .b
  | .andAC => .aluReg .and .c
  | .andAD => .aluReg .and .d
  | .andAE => .aluReg .and .e
  | .andAH => .aluReg .and .h
  | .andAL => .aluReg .and .l
  | .andAIndHl => .aluInd .and
  | .andAA => .aluReg .and .a
  | .xorAB => .aluReg .xor .b
  | .xorAC => .aluReg .xor .c
  | .xorAD => .aluReg .xor .d
  | .xorAE => .aluReg .xor .e
  | .xorAH => .aluReg .xor .h
  | .xorAL => .aluReg .xor .l
  | .xorAIndHl => .aluInd .xor
  | .xorAA => .aluReg .xor .a
  | .orAB => .aluReg .or .b
  | .orAC => .aluReg .or .c
  | .orAD => .aluReg .or .d
  | .orAE => .aluReg .or .e
  | .orAH => .aluReg .or .h
  | .orAL => .aluReg .or .l
  | .orAIndHl => .aluInd .or
  | .orAA => .aluReg .or .a
  | .cpAB => .aluReg .cp .b
  | .cpAC => .aluReg .cp .c
  | .cpAD => .aluReg .cp .d
  | .cpAE => .aluReg .cp .e
  | .cpAH => .aluReg .cp .h
  | .cpAL => .aluReg .cp .l
  | .cpAIndHl => .aluInd .cp
  | .cpAA => .aluReg .cp .a
  | .retNz => .retCond .nz
  | .popBc => .popPair .bc
  | .pushBc => .pushPair .bc
  | .rst00 => .rst 0
  | .retZ => .retCond .z
  | .ret => .ret
  | .prefixCb => .prefixCb
  | .rst08 => .rst 1
  | .retNc => .retCond .nc
  | .popDe => .popPair .de
  | .pushDe => .pushPair .de
  | .rst10 => .rst 2
  | .retC => .retCond .c
  | .reti => .reti
  | .rst18 => .rst 3
  | .popHl => .popPair .hl
  | .ldIndCA => .ldIndCA
  | .pushHl => .pushPair .hl
  | .rst20 => .rst 4
  | .jpHl => .jpHl
  | .rst28 => .rst 5
  | .popAf => .popPair .af
  | .ldAIndC => .ldAIndC
  | .di => .di
  | .pushAf => .pushPair .af
  | .rst30 => .rst 6
  | .ldSpHl => .ldSpHl
  | .ei => .ei
  | .rst38 => .rst 7
  | .rlcB => .cbRot .rlc (.reg .b)
  | .rlcC => .cbRot .rlc (.reg .c)
  | .rlcD => .cbRot .rlc (.reg .d)
  | .rlcE => .cbRot .rlc (.reg .e)
  | .rlcH => .cbRot .rlc (.reg .h)
  | .rlcL => .cbRot .rlc (.reg .l)
  | .rlcIndHl => .cbRot .rlc .indHl
  | .rlcA => .cbRot .rlc (.reg .a)
  | .rrcB => .cbRot .rrc (.reg .b)
  | .rrcC => .cbRot .rrc (.reg .c)
  | .rrcD => .cbRot .rrc (.reg .d)
  | .rrcE => .cbRot .rrc (.reg .e)
  | .rrcH => .cbRot .rrc (.reg .h)
  | .rrcL => .cbRot .rrc (.reg .l)
  | .rrcIndHl => .cbRot .rrc .indHl
  | .rrcA => .cbRot .rrc (.reg .a)
  | .rlB => .cbRot .rl (.reg .b)
  | .rlC => .cbRot .rl (.reg .c)
  | .rlD => .cbRot .rl (.reg .d)
  | .rlE => .cbRot .rl (.reg .e)
  | .rlH => .cbRot .rl (.reg .h)
  | .rlL => .cbRot .rl (.reg .l)
  | .rlIndHl => .cbRot .rl .indHl
  | .rlA => .cbRot .rl (.reg .a)
  | .rrB => .cbRot .rr (.reg .b)
  | .rrC => .cbRot .rr (.reg .c)
  | .rrD => .cbRot .rr (.reg .d)
  | .rrE => .cbRot .rr (.reg .e)
  | .rrH => .cbRot .rr (.reg .h)
  | .rrL => .cbRot .rr (.reg .l)
  | .rrIndHl => .cbRot .rr .indHl
  | .rrA => .cbRot .rr (.reg .a)
  | .slaB => .cbRot .sla (.reg .b)
  | .slaC => .cbRot .sla (.reg .c)
  | .slaD => .cbRot .sla (.reg .d)
  | .slaE => .cbRot .sla (.reg .e)
  | .slaH => .cbRot .sla (.reg .h)
  | .slaL => .cbRot .sla (.reg .l)
  | .slaIndHl => .cbRot .sla .indHl
  | .slaA => .cbRot .sla (.reg .a)
  | .sraB => .cbRot .sra (.reg .b)
  | .sraC => .cbRot .sra (.reg .c)
  | .sraD => .cbRot .sra (.reg .d)
  | .sraE => .cbRot .sra (.reg .e)
  | .sraH => .cbRot .sra (.reg .h)
  | .sraL => .cbRot .sra (.reg .l)
  | .sraIndHl => .cbRot .sra .indHl
  | .sraA => .cbRot .sra (.reg .a)
  | .swapB => .cbRot .swap (.reg .b)
  | .swapC => .cbRot .swap (.reg .c)
  | .swapD => .cbRot .swap (.reg .d)
  | .swapE => .cbRot .swap (.reg .e)
  | .swapH => .cbRot .swap (.reg .h)
  | .swapL => .cbRot .swap (.reg .l)
  | .swapIndHl => .cbRot .swap .indHl
  | .swapA => .cbRot .swap (.reg .a)
  | .srlB => .cbRot .srl (.reg .b)
  | .srlC => .cbRot .srl (.reg .c)
  | .srlD => .cbRot .srl (.reg .d)
  | .srlE => .cbRot .srl (.reg .e)
  | .srlH => .cbRot .srl (.reg .h)
  | .srlL => .cbRot .srl (.reg .l)
  | .srlIndHl => .cbRot .srl .indHl
  | .srlA => .cbRot .srl (.reg .a)
  | .bit0B => .cbBit 0 (.reg .b)
  | .bit0C => .cbBit 0 (.reg .c)
  | .bit0D => .cbBit 0 (.reg .d)
  | .bit0E => .cbBit 0 (.reg .e)
  | .bit0H => .cbBit 0 (.reg .h)
  | .bit0L => .cbBit 0 (.reg .l)
  | .bit0IndHl => .cbBit 0 .indHl
  | .bit0A => .cbBit 0 (.reg .a)
  | .bit1B => .cbBit 1 (.reg .b)
  | .bit1C => .cbBit 1 (.reg .c)
  | .bit1D => .cbBit 1 (.reg .d)
  | .bit1E => .cbBit 1 (.reg .e)
  | .bit1H => .cbBit 1 (.reg .h)
  | .bit1L => .cbBit 1 (.reg .l)
  | .bit1IndHl => .cbBit 1 .indHl
  | .bit1A => .cbBit 1 (.reg .a)
  | .bit2B => .cbBit 2 (.reg .b)
  | .bit2C => .cbBit 2 (.reg .c)
  | .bit2D => .cbBit 2 (.reg .d)
  | .bit2E => .cbBit 2 (.reg .e)
  | .bit2H => .cbBit 2 (.reg .h)
  | .bit2L => .cbBit 2 (.reg .l)
  | .bit2IndHl => .cbBit 2 .indHl
  | .bit2A => .cbBit 2 (.reg .a)
  | .bit3B => .cbBit 3 (.reg .b)
  | .bit3C => .cbBit 3 (.reg .c)
  | .bit3D => .cbBit 3 (.reg .d)
  | .bit3E => .cbBit 3 (.reg .e)
  | .bit3H => .cbBit 3 (.reg .h)
  | .bit3L => .cbBit 3 (.reg .l)
  | .bit3IndHl => .cbBit 3 .indHl
  | .bit3A => .cbBit 3 (.reg .a)
  | .bit4B => .cbBit 4 (.reg .b)
  | .bit4C => .cbBit 4 (.reg .c)
  | .bit4D => .cbBit 4 (.reg .d)
  | .bit4E => .cbBit 4 (.reg .e)
  | .bit4H => .cbBit 4 (.reg .h)
  | .bit4L => .cbBit 4 (.reg .l)
  | .bit4IndHl => .cbBit 4 .indHl
  | .bit4A => .cbBit 4 (.reg .a)
  | .bit5B => .cbBit 5 (.reg .b)
  | .bit5C => .cbBit 5 (.reg .c)
  | .bit5D => .cbBit 5 (.reg .d)
  | .bit5E => .cbBit 5 (.reg .e)
  | .bit5H => .cbBit 5 (.reg .h)
  | .bit5L => .cbBit 5 (.reg .l)
  | .bit5IndHl => .cbBit 5 .indHl
  | .bit5A => .cbBit 5 (.reg .a)
  | .bit6B => .cbBit 6 (.reg .b)
  | .bit6C => .cbBit 6 (.reg .c)
  | .bit6D => .cbBit 6 (.reg .d)
  | .bit6E => .cbBit 6 (.reg .e)
  | .bit6H => .cbBit 6 (.reg .h)
  | .bit6L => .cbBit 6 (.reg .l)
  | .bit6IndHl => .cbBit 6 .indHl
  | .bit6A => .cbBit 6 (.reg .a)
  | .bit7B => .cbBit 7 (.reg .b)
  | .bit7C => .cbBit 7 (.reg .c)
  | .bit7D => .cbBit 7 (.reg .d)
  | .bit7E => .cbBit 7 (.reg .e)
  | .bit7H => .cbBit 7 (.reg .h)
  | .bit7L => .cbBit 7 (.reg .l)
  | .bit7IndHl => .cbBit 7 .indHl
  | .bit7A => .cbBit 7 (.reg .a)
  | .res0B => .cbRes 0 (.reg .b)
  | .res0C => .cbRes 0 (.reg .c)
  | .res0D => .cbRes 0 (.reg .d)
  | .res0E => .cbRes 0 (.reg .e)
  | .res0H => .cbRes 0 (.reg .h)
  | .res0L => .cbRes 0 (.reg .l)
  | .res0IndHl => .cbRes 0 .indHl
  | .res0A => .cbRes 0 (.reg .a)
  | .res1B => .cbRes 1 (.reg .b)
  | .res1C => .cbRes 1 (.reg .c)
  | .res1D => .cbRes 1 (.reg .d)
  | .res1E => .cbRes 1 (.reg .e)
  | .res1H => .cbRes 1 (.reg .h)
  | .res1L => .cbRes 1 (.reg .l)
  | .res1IndHl => .cbRes 1 .indHl
  | .res1A => .cbRes 1 (.reg .a)
  | .res2B => .cbRes 2 (.reg .b)
  | .res2C => .cbRes 2 (.reg .c)
  | .res2D => .cbRes 2 (.reg .d)
  | .res2E => .cbRes 2 (.reg .e)
  | .res2H => .cbRes 2 (.reg .h)
  | .res2L => .cbRes 2 (.reg .l)
  | .res2IndHl => .cbRes 2 .indHl
  | .res2A => .cbRes 2 (.reg .a)
  | .res3B => .cbRes 3 (.reg .b)
  | .res3C => .cbRes 3 (.reg .c)
  | .res3D => .cbRes 3 (.reg .d)
  | .res3E => .cbRes 3 (.reg .e)
  | .res3H => .cbRes 3 (.reg .h)
  | .res3L => .cbRes 3 (.reg .l)
  | .res3IndHl => .cbRes 3 .indHl
  | .res3A => .cbRes 3 (.reg .a)
  | .res4B => .cbRes 4 (.reg .b)
  | .res4C => .cbRes 4 (.reg .c)
  | .res4D => .cbRes 4 (.reg .d)
  | .res4E => .cbRes 4 (.reg .e)
  | .res4H => .cbRes 4 (.reg .h)
  | .res4L => .cbRes 4 (.reg .l)
  | .res4IndHl => .cbRes 4 .indHl
  | .res4A => .cbRes 4 (.reg .a)
  | .res5B => .cbRes 5 (.reg .b)
  | .res5C => .cbRes 5 (.reg .c)
  | .res5D => .cbRes 5 (.reg .d)
  | .res5E => .cbRes 5 (.reg .e)
  | .res5H => .cbRes 5 (.reg .h)
  | .res5L => .cbRes 5 (.reg .l)
  | .res5IndHl => .cbRes 5 .indHl
  | .res5A => .cbRes 5 (.reg .a)
  | .res6B => .cbRes 6 (.reg .b)
  | .res6C => .cbRes 6 (.reg .c)
  | .res6D => .cbRes 6 (.reg .d)
  | .res6E => .cbRes 6 (.reg .e)
  | .res6H => .cbRes 6 (.reg .h)
  | .res6L => .cbRes 6 (.reg .l)
  | .res6IndHl => .cbRes 6 .indHl
  | .res6A => .cbRes 6 (.reg .a)
  | .res7B => .cbRes 7 (.reg .b)
  | .res7C => .cbRes 7 (.reg .c)
  | .res7D => .cbRes 7 (.reg .d)
  | .res7E => .cbRes 7 (.reg .e)
  | .res7H => .cbRes 7 (.reg .h)
  | .res7L => .cbRes 7 (.reg .l)
  | .res7IndHl => .cbRes 7 .indHl
  | .res7A => .cbRes 7 (.reg .a)
  | .set0B => .cbSet 0 (.reg .b)
  | .set0C => .cbSet 0 (.reg .c)
  | .set0D => .cbSet 0 (.reg .d)
  | .set0E => .cbSet 0 (.reg .e)
  | .set0H => .cbSet 0 (.reg .h)
  | .set0L => .cbSet 0 (.reg .l)
  | .set0IndHl => .cbSet 0 .indHl
  | .set0A => .cbSet 0 (.reg .a)
  | .set1B => .cbSet 1 (.reg .b)
  | .set1C => .cbSet 1 (.reg .c)
  | .set1D => .cbSet 1 (.reg .d)
  | .set1E => .cbSet 1 (.reg .e)
  | .set1H => .cbSet 1 (.reg .h)
  | .set1L => .cbSet 1 (.reg .l)
  | .set1IndHl => .cbSet 1 .indHl
  | .set1A => .cbSet 1 (.reg .a)
  | .set2B => .cbSet 2 (.reg .b)
  | .set2C => .cbSet 2 (.reg .c)
  | .set2D => .cbSet 2 (.reg .d)
  | .set2E => .cbSet 2 (.reg .e)
  | .set2H => .cbSet 2 (.reg .h)
  | .set2L => .cbSet 2 (.reg .l)
  | .set2IndHl => .cbSet 2 .indHl
  | .set2A => .cbSet 2 (.reg .a)
  | .set3B => .cbSet 3 (.reg .b)
  | .set3C => .cbSet 3 (.reg .c)
  | .set3D => .cbSet 3 (.reg .d)
  | .set3E => .cbSet 3 (.reg .e)
  | .set3H => .cbSet 3 (.reg .h)
  | .set3L => .cbSet 3 (.reg .l)
  | .set3IndHl => .cbSet 3 .indHl
  | .set3A => .cbSet 3 (.reg .a)
  | .set4B => .cbSet 4 (.reg .b)
  | .set4C => .cbSet 4 (.reg .c)
  | .set4D => .cbSet 4 (.reg .d)
  | .set4E => .cbSet 4 (.reg .e)
  | .set4H => .cbSet 4 (.reg .h)
  | .set4L => .cbSet 4 (.reg .l)
  | .set4IndHl => .cbSet 4 .indHl
  | .set4A => .cbSet 4 (.reg .a)
  | .set5B => .cbSet 5 (.reg .b)
  | .set5C => .cbSet 5 (.reg .c)
  | .set5D => .cbSet 5 (.reg .d)
  | .set5E => .cbSet 5 (.reg .e)
  | .set5H => .cbSet 5 (.reg .h)
  | .set5L => .cbSet 5 (.reg .l)
  | .set5IndHl => .cbSet 5 .indHl
  | .set5A => .cbSet 5 (.reg .a)
  | .set6B => .cbSet 6 (.reg .b)
  | .set6C => .cbSet 6 (.reg .c)
  | .set6D => .cbSet 6 (.reg .d)
  | .set6E => .cbSet 6 (.reg .e)
  | .set6H => .cbSet 6 (.reg .h)
  | .set6L => .cbSet 6 (.reg .l)
  | .set6IndHl => .cbSet 6 .indHl
  | .set6A => .cbSet 6 (.reg .a)
  | .set7B => .cbSet 7 (.reg .b)
  | .set7C => .cbSet 7 (.reg .c)
  | .set7D => .cbSet 7 (.reg .d)
  | .set7E => .cbSet 7 (.reg .e)
  | .set7H => .cbSet 7 (.reg .h)
  | .set7L => .cbSet 7 (.reg .l)
  | .set7IndHl => .cbSet 7 .indHl
  | .set7A => .cbSet 7 (.reg .a)

/-- The eight values of a three-bit field. -/
theorem bits3 (k : BitVec 3) : k = 0 ∨ k = 1 ∨ k = 2 ∨ k = 3 ∨ k = 4 ∨ k = 5 ∨ k = 6 ∨ k = 7 := by
  revert k; decide

/-! ### The other direction: what a form of an instruction does -/

theorem exec_ldRegReg (s : State) (dst src : Reg8) : exec (Instr.ldRegReg dst src) s = ldRegReg s dst src := by
  cases dst <;> cases src <;> rfl

theorem exec_ldRegImm (s : State) (dst : Reg8) (n : Byte) : exec (Instr.ldRegImm dst n) s = ldRegImm s dst n := by
  cases dst <;> rfl

theorem exec_ldRegInd (s : State) (dst : Reg8) : exec (Instr.ldRegInd dst) s = ldRegInd s dst := by
  cases dst <;> rfl

theorem exec_ldIndReg (s : State) (src : Reg8) : exec (Instr.ldIndReg src) s = ldIndReg s src := by
  cases src <;> rfl

theorem exec_ldIndHlN (s : State) (n : Byte) : exec (Instr.ldIndHlN n) s = storeThenFinish s (hlAddress s) n 2 := rfl

theorem exec_ldAIndBc (s : State) : exec .ldAIndBc s = loadAThenFinish s (pair s .bc) 1 := rfl

theorem exec_ldAIndDe (s : State) : exec .ldAIndDe s = loadAThenFinish s (pair s .de) 1 := rfl

theorem exec_ldIndBcA (s : State) : exec .ldIndBcA s = storeThenFinish s (pair s .bc) s.a 1 := rfl

theorem exec_ldIndDeA (s : State) : exec .ldIndDeA s = storeThenFinish s (pair s .de) s.a 1 := rfl

theorem exec_ldAIndNn (s : State) (nn : Word) : exec (Instr.ldAIndNn nn) s = loadAThenFinish s nn 3 := rfl

theorem exec_ldIndNnA (s : State) (nn : Word) : exec (Instr.ldIndNnA nn) s = storeThenFinish s nn s.a 3 := rfl

theorem exec_ldhAIndN (s : State) (n : Byte) : exec (Instr.ldhAIndN n) s = loadAThenFinish s (highPage n) 2 := rfl

theorem exec_ldhIndNA (s : State) (n : Byte) : exec (Instr.ldhIndNA n) s = storeThenFinish s (highPage n) s.a 2 := rfl

theorem exec_ldAIndC (s : State) : exec .ldAIndC s = loadAThenFinish s (highPage s.c) 1 := rfl

theorem exec_ldIndCA (s : State) : exec .ldIndCA s = storeThenFinish s (highPage s.c) s.a 1 := rfl

theorem exec_ldIndHlIncA (s : State) : exec .ldIndHlIncA s = storeStep s 1 := rfl

theorem exec_ldAIndHlInc (s : State) : exec .ldAIndHlInc s = loadStep s 1 := rfl

theorem exec_ldIndHlDecA (s : State) : exec .ldIndHlDecA s = storeStep s (-1) := rfl

theorem exec_ldAIndHlDec (s : State) : exec .ldAIndHlDec s = loadStep s (-1) := rfl

theorem exec_ldPairImm (s : State) (p : Pair) (nn : Word) : exec (Instr.ldPairImm p nn) s = ldPairImm s p nn := by
  cases p <;> rfl

theorem exec_ldIndNnSp (s : State) (nn : Word) : exec (Instr.ldIndNnSp nn) s = storeSp s nn := rfl

theorem exec_ldSpHl (s : State) : exec .ldSpHl s = ldSpHl s := rfl

theorem exec_ldHlSpE (s : State) (e : Byte) : exec (Instr.ldHlSpE e) s = ldHlSpE s e := rfl

theorem exec_pushPair (s : State) (q : StackPair) : exec (Instr.pushPair q) s = pushPair s q := by
  cases q <;> rfl

theorem exec_popPair (s : State) (q : StackPair) : exec (Instr.popPair q) s = popPair s q := by
  cases q <;> rfl

theorem exec_aluReg (s : State) (op : AluOp) (src : Reg8) : exec (Instr.aluReg op src) s = aluReg s op src := by
  cases op <;> cases src <;> rfl

theorem exec_aluInd (s : State) (op : AluOp) : exec (Instr.aluInd op) s = aluInd s op := by
  cases op <;> rfl

theorem exec_aluImm (s : State) (op : AluOp) (n : Byte) : exec (Instr.aluImm op n) s = aluImm s op n := by
  cases op <;> rfl

theorem exec_incReg (s : State) (r : Reg8) : exec (Instr.incReg r) s = incReg s r := by
  cases r <;> rfl

theorem exec_incIndHl (s : State) : exec .incIndHl s = incInd s := rfl

theorem exec_decReg (s : State) (r : Reg8) : exec (Instr.decReg r) s = decReg s r := by
  cases r <;> rfl

theorem exec_decIndHl (s : State) : exec .decIndHl s = decInd s := rfl

theorem exec_daa (s : State) : exec .daa s = decimalAdjust s := rfl

theorem exec_cpl (s : State) : exec .cpl s = complementA s := rfl

theorem exec_scf (s : State) : exec .scf s = setCarry s := rfl

theorem exec_ccf (s : State) : exec .ccf s = complementCarry s := rfl

theorem exec_addHlPair (s : State) (p : Pair) : exec (Instr.addHlPair p) s = addHlPair s p := by
  cases p <;> rfl

theorem exec_incPair (s : State) (p : Pair) : exec (Instr.incPair p) s = stepPair s p 1 := by
  cases p <;> rfl

theorem exec_decPair (s : State) (p : Pair) : exec (Instr.decPair p) s = stepPair s p (-1) := by
  cases p <;> rfl

theorem exec_addSpE (s : State) (e : Byte) : exec (Instr.addSpE e) s = addSpE s e := rfl

theorem exec_rlca (s : State) : exec .rlca s = rotateA s .rlc := rfl

theorem exec_rrca (s : State) : exec .rrca s = rotateA s .rrc := rfl

theorem exec_rla (s : State) : exec .rla s = rotateA s .rl := rfl

theorem exec_rra (s : State) : exec .rra s = rotateA s .rr := rfl

theorem exec_cbRot (s : State) (op : RotOp) (t : Target) : exec (Instr.cbRot op t) s = rotateTarget s op t := by
  cases op <;> (rcases t with (_ | _ | _ | _ | _ | _ | _) | _) <;> rfl

theorem exec_cbBit (s : State) (b : BitVec 3) (t : Target) : exec (Instr.cbBit b t) s = bitTarget s b t := by
  rcases bits3 b with rfl | rfl | rfl | rfl | rfl | rfl | rfl | rfl <;>
    (rcases t with (_ | _ | _ | _ | _ | _ | _) | _) <;> rfl

theorem exec_cbRes (s : State) (b : BitVec 3) (t : Target) : exec (Instr.cbRes b t) s = resTarget s b t := by
  rcases bits3 b with rfl | rfl | rfl | rfl | rfl | rfl | rfl | rfl <;>
    (rcases t with (_ | _ | _ | _ | _ | _ | _) | _) <;> rfl

theorem exec_cbSet (s : State) (b : BitVec 3) (t : Target) : exec (Instr.cbSet b t) s = setTarget s b t := by
  rcases bits3 b with rfl | rfl | rfl | rfl | rfl | rfl | rfl | rfl <;>
    (rcases t with (_ | _ | _ | _ | _ | _ | _) | _) <;> rfl

theorem exec_jpNn (s : State) (nn : Word) : exec (Instr.jpNn nn) s = jump s nn := rfl

theorem exec_jpCond (s : State) (cc : Cond) (nn : Word) : exec (Instr.jpCond cc nn) s = jumpIf s cc nn := by
  cases cc <;> rfl

theorem exec_jpHl (s : State) : exec .jpHl s = jump s (hlAddress s) := rfl

theorem exec_jrE (s : State) (e : Byte) : exec (Instr.jrE e) s = jumpRelative s e := rfl

theorem exec_jrCond (s : State) (cc : Cond) (e : Byte) : exec (Instr.jrCond cc e) s = jumpRelativeIf s cc e := by
  cases cc <;> rfl

theorem exec_callNn (s : State) (nn : Word) : exec (Instr.callNn nn) s = call s nn 3 := rfl

theorem exec_callCond (s : State) (cc : Cond) (nn : Word) : exec (Instr.callCond cc nn) s = callIf s cc nn := by
  cases cc <;> rfl

theorem exec_ret (s : State) : exec .ret s = ret s := rfl

theorem exec_retCond (s : State) (cc : Cond) : exec (Instr.retCond cc) s = retIf s cc := by
  cases cc <;> rfl

theorem exec_reti (s : State) : exec .reti s = retEnable s := rfl

theorem exec_rst (s : State) (k : BitVec 3) : exec (Instr.rst k) s = call s (8 * k.setWidth 16) 1 := by
  rcases bits3 k with rfl | rfl | rfl | rfl | rfl | rfl | rfl | rfl <;> rfl

theorem exec_nop (s : State) : exec .nop s = finish s 1 := rfl

theorem exec_stop (s : State) : exec .stop s = stop s := rfl

theorem exec_halt (s : State) : exec .halt s = halt s := rfl

theorem exec_di (s : State) : exec .di s = writeIme s false := rfl

theorem exec_ei (s : State) : exec .ei s = writeIme s true := rfl

theorem exec_prefixCb (s : State) : exec .prefixCb s = dispatchPrefix s := rfl

theorem exec_illegal (s : State) (op : Byte) : exec (Instr.illegal op) s = illegal s op := rfl

end Sys2Proof.Machine
end

