-- ==== Sys2Proof/Laws/Flags.lean ====
section
/-! SUPPORT. What a flag update does to F, bit by bit: each flag is its own bit (10_state.md R24-R26). -/

namespace Sys2Proof.Machine

/-- A flag write changes its own bit alone. -/
theorem getLsbD_putFlag (f : Byte) (g : Flag) (on : Bool) (i : Nat) :
    (putFlag f g on).getLsbD i = if i = g.bit then on else f.getLsbD i := by
  rcases Nat.lt_or_ge i 8 with hi | hi
  · have : i = 0 ∨ i = 1 ∨ i = 2 ∨ i = 3 ∨ i = 4 ∨ i = 5 ∨ i = 6 ∨ i = 7 := by omega
    rcases this with rfl | rfl | rfl | rfl | rfl | rfl | rfl | rfl <;> cases g <;> cases on <;> simp [putFlag, Flag.bit]
  · have hne : i ≠ g.bit := by cases g <;> simp only [Flag.bit] <;> omega
    rw [if_neg hne, BitVec.getLsbD_of_ge _ _ hi, BitVec.getLsbD_of_ge _ _ hi]

theorem getLsbD_putFlag? (f : Byte) (g : Flag) (o : Option Bool) (i : Nat) :
    (putFlag? f g o).getLsbD i = if i = g.bit then o.getD (f.getLsbD i) else f.getLsbD i := by
  cases o with
  | none => simp [putFlag?]
  | some on => simp [putFlag?, getLsbD_putFlag]

/-- F after an update: each listed flag as written, everything else as it was. -/
theorem getLsbD_updateFlags (f : Byte) (u : FlagUpdate) (i : Nat) :
    (updateFlags f u).getLsbD i =
      if i = 7 then u.z.getD (f.getLsbD 7)
      else if i = 6 then u.n.getD (f.getLsbD 6)
      else if i = 5 then u.h.getD (f.getLsbD 5)
      else if i = 4 then u.c.getD (f.getLsbD 4)
      else f.getLsbD i := by
  simp only [updateFlags, getLsbD_putFlag?, Flag.bit]
  split_ifs <;> simp_all

/-- A flag after an update. -/
theorem flagOf_updateFlags (f : Byte) (u : FlagUpdate) (g : Flag) :
    flagOf (updateFlags f u) g =
      (match g with | .z => u.z | .n => u.n | .h => u.h | .c => u.c).getD (flagOf f g) := by
  cases g <;> exact getLsbD_updateFlags f u _

/-- F's low nibble is no flag. -/
@[simp] theorem updateFlags_low (f : Byte) (u : FlagUpdate) : updateFlags f u &&& 0x0F = f &&& 0x0F := by
  apply BitVec.eq_of_getLsbD_eq
  intro i hi
  rw [BitVec.getLsbD_and, BitVec.getLsbD_and, getLsbD_updateFlags]
  have : i = 0 ∨ i = 1 ∨ i = 2 ∨ i = 3 ∨ i = 4 ∨ i = 5 ∨ i = 6 ∨ i = 7 := by omega
  rcases this with rfl | rfl | rfl | rfl | rfl | rfl | rfl | rfl <;> simp

end Sys2Proof.Machine
end

