-- ==== Sys2Proof/Laws/Keeps.lean ====
section
/-! SUPPORT. What an instruction and a step can do, said once: every state they leave is reached from the state before by the
named updates and bus writes, so a property those keep holds of what a step leaves. -/

namespace Sys2Proof.Machine

/-- The first property is kept by every update an instruction makes, but those of IME and of the run state; writing the fault
record turns it into the second. -/
structure Kept (P Q : State → Prop) : Prop where
  reg : ∀ {s}, P s → ∀ r v, P (setReg8 s r v)
  flagReg : ∀ {s}, P s → ∀ v, P (setF s v)
  flags : ∀ {s}, P s → ∀ u, P (withFlags s u)
  sp : ∀ {s}, P s → ∀ v, P (setSp s v)
  pc : ∀ {s}, P s → ∀ v, P (setPc s v)
  fault : ∀ {s}, P s → ∀ r, Q { s with fault := some r }
  write : ∀ {s t address v}, P s → busWrite s address v = .ok t → P t

namespace Kept

variable {P Q : State → Prop} {s : State}

theorem pair (h : Kept P Q) (hs : P s) (p : Pair) (v : Word) : P (setPair s p v) := by
  cases p
  · exact h.reg (h.reg hs .b (hiByte v)) .c (loByte v)
  · exact h.reg (h.reg hs .d (hiByte v)) .e (loByte v)
  · exact h.reg (h.reg hs .h (hiByte v)) .l (loByte v)
  · exact h.sp hs v

theorem stackPair (h : Kept P Q) (hs : P s) (q : StackPair) (v : Word) : P (setStackPair s q v) := by
  cases q
  · exact h.pair hs .bc v
  · exact h.pair hs .de v
  · exact h.pair hs .hl v
  · exact h.flagReg (h.reg hs _ _) _

theorem target (h : Kept P Q) (hs : P s) {t : Target} {v : Byte} {u : State} (hu : targetWritten s v t = .ok u) : P u := by
  cases t with
  | reg r => exact Except.ok.inj hu ▸ h.reg hs r v
  | indHl => exact h.write hs hu

theorem finish (h : Kept P Q) (hs : P s) (n : Word) : endsIn P Q (finish s n) := h.pc hs _

theorem jump (h : Kept P Q) (hs : P s) (target : Word) : endsIn P Q (jump s target) := h.pc hs _

theorem read (h : Kept P Q) (hs : P s) {sub : Option Byte} {address : Word} {rest : Byte → Result}
    (hr : ∀ v, busRead s address = .ok v → endsIn P Q (rest v)) : endsIn P Q (readThen sub s address rest) :=
  endsIn_readThen (h.fault hs) hr

theorem store (h : Kept P Q) (hs : P s) {sub : Option Byte} {address : Word} {v : Byte} {rest : State → Result}
    (hr : ∀ u, P u → endsIn P Q (rest u)) : endsIn P Q (writeThen sub s address v rest) :=
  endsIn_writeThen (h.fault hs) fun u hu => hr u (h.write hs hu)

theorem push (h : Kept P Q) (hs : P s) {v : Word} {rest : State → Result} (hr : ∀ u, P u → endsIn P Q (rest u)) :
    endsIn P Q (push16 s v rest) :=
  h.store hs fun _ h1 => h.store h1 fun _ h2 => hr _ (h.sp h2 _)

theorem pop (h : Kept P Q) (hs : P s) {rest : State → Word → Result} (hr : ∀ u v, P u → endsIn P Q (rest u v)) :
    endsIn P Q (pop16 s rest) :=
  h.read hs fun _ _ => h.read hs fun _ _ => hr _ _ (h.sp hs _)

theorem readOperand (h : Kept P Q) (hs : P s) {sub : Option Byte} {t : Target} {rest : Byte → Result}
    (hr : ∀ v, endsIn P Q (rest v)) : endsIn P Q (readTarget sub s t rest) :=
  endsIn_readTarget (h.fault hs) fun v _ => hr v

theorem writeOperand (h : Kept P Q) (hs : P s) {sub : Option Byte} {t : Target} {v : Byte} {rest : State → Result}
    (hr : ∀ u, P u → endsIn P Q (rest u)) : endsIn P Q (writeTarget sub s t v rest) :=
  endsIn_writeTarget (h.fault hs) fun u hu => hr u (h.target hs hu)

theorem aluOn (h : Kept P Q) (hs : P s) (op : AluOp) (x : Byte) (n : Word) : endsIn P Q (aluOn s op x n) := by
  cases op <;> first | exact h.finish (h.reg (h.flags hs _) _ _) _ | exact h.finish (h.flags hs _) _

theorem rotateTarget (h : Kept P Q) (hs : P s) (op : RotOp) (t : Target) : endsIn P Q (rotateTarget s op t) := by
  unfold Sys2Proof.Machine.rotateTarget
  exact h.readOperand hs fun _ => h.writeOperand hs fun _ hu => h.finish (h.flags hu _) _

theorem bitTarget (h : Kept P Q) (hs : P s) (b : BitVec 3) (t : Target) : endsIn P Q (bitTarget s b t) :=
  h.readOperand hs fun _ => h.finish (h.flags hs _) _

theorem resTarget (h : Kept P Q) (hs : P s) (b : BitVec 3) (t : Target) : endsIn P Q (resTarget s b t) := by
  unfold Sys2Proof.Machine.resTarget
  exact h.readOperand hs fun _ => h.writeOperand hs fun _ hu => h.finish hu _

theorem setTarget (h : Kept P Q) (hs : P s) (b : BitVec 3) (t : Target) : endsIn P Q (setTarget s b t) := by
  unfold Sys2Proof.Machine.setTarget
  exact h.readOperand hs fun _ => h.writeOperand hs fun _ hu => h.finish hu _

theorem call (h : Kept P Q) (hs : P s) (target length : Word) : endsIn P Q (call s target length) :=
  h.push hs fun _ hu => h.jump hu _

theorem ret (h : Kept P Q) (hs : P s) : endsIn P Q (ret s) := h.pop hs fun _ _ hu => h.jump hu _

theorem runCb (h : Kept P Q) (hs : P s) (sub : Byte) : endsIn P Q (runCb s sub) := by
  unfold Sys2Proof.Machine.runCb pick4
  dsimp only
  split
  · exact h.rotateTarget hs _ _
  · exact h.bitTarget hs _ _
  · exact h.resTarget hs _ _
  · exact h.setTarget hs _ _

end Kept

/-- What an instruction keeps: a property every update keeps, and, for the five that write IME or the run
state, those updates too; a fault leaves the second property. -/
theorem exec_keeps {P Q : State → Prop} (h : Kept P Q) {i : Instr}
    (hime : i = .di ∨ i = .ei ∨ i = .reti → ∀ {s}, P s → ∀ on, P (setIme s on))
    (hrun : i = .halt ∨ i = .stop → ∀ {s}, P s → ∀ r, P (setRun s r)) {s : State} (hs : P s) :
    endsIn P Q (exec i s) := by
  have hm := exec_meaning s i
  generalize exec i s = o at hm
  cases hm with
  | ldRegReg | ldRegImm => exact h.finish (h.reg hs _ _) _
  | ldRegInd | ldAIndBc | ldAIndDe | ldAIndNn | ldhAIndN | ldAIndC =>
    exact h.read hs fun _ _ => h.finish (h.reg hs _ _) _
  | ldIndReg | ldIndHlN | ldIndBcA | ldIndDeA | ldIndNnA | ldhIndNA | ldIndCA =>
    exact h.store hs fun _ hu => h.finish hu _
  | ldIndHlIncA | ldIndHlDecA => exact h.store hs fun _ hu => h.finish (h.pair hu .hl _) _
  | ldAIndHlInc | ldAIndHlDec => exact h.read hs fun _ _ => h.finish (h.pair (h.reg hs _ _) .hl _) _
  | ldPairImm p => exact h.finish (h.pair hs p _) _
  | ldIndNnSp => exact h.store hs fun _ h1 => h.store h1 fun _ h2 => h.finish h2 _
  | ldSpHl => exact h.finish (h.sp hs _) _
  | ldHlSpE => exact h.finish (h.flags (h.pair hs .hl _) _) _
  | pushPair => exact h.push hs fun _ hu => h.finish hu _
  | popPair q => exact h.pop hs fun _ _ hu => h.finish (h.stackPair hu q _) _
  | aluReg op | aluImm op => exact h.aluOn hs op _ _
  | aluInd op => exact h.read hs fun _ _ => h.aluOn hs op _ _
  | incReg | decReg => exact h.finish (h.flags (h.reg hs _ _) _) _
  | incIndHl | decIndHl => exact h.read hs fun _ _ => h.store hs fun _ hu => h.finish (h.flags hu _) _
  | daa | cpl => exact h.finish (h.flags (h.reg hs _ _) _) _
  | scf | ccf => exact h.finish (h.flags hs _) _
  | addHlPair => exact h.finish (h.flags (h.pair hs .hl _) _) _
  | incPair p | decPair p => exact h.finish (h.pair hs p _) _
  | addSpE => exact h.finish (h.flags (h.sp hs _) _) _
  | rlca | rrca | rla | rra => exact h.finish (h.flags (h.reg hs _ _) _) _
  | cbRot op t => exact h.rotateTarget hs op t
  | cbBit b t => exact h.bitTarget hs b t
  | cbRes b t => exact h.resTarget hs b t
  | cbSet b t => exact h.setTarget hs b t
  | jpNn | jpHl | jrE => exact h.jump hs _
  | jpCond cc nn =>
    unfold jumpIf; split
    · exact h.jump hs _
    · exact h.finish hs _
  | jrCond cc e =>
    unfold jumpRelativeIf; split
    · exact h.jump hs _
    · exact h.finish hs _
  | callNn | rst => exact h.call hs _ _
  | callCond cc nn =>
    unfold callIf; split
    · exact h.call hs _ _
    · exact h.finish hs _
  | ret => exact h.ret hs
  | retCond cc =>
    unfold retIf; split
    · exact h.ret hs
    · exact h.finish hs _
  | reti => exact h.pop hs fun _ _ hu => h.jump (hime (.inr (.inr rfl)) hu _) _
  | nop => exact h.finish hs _
  | stop => exact hrun (.inr rfl) (h.pc hs _) _
  | halt =>
    unfold halt; split
    · trivial
    · exact hrun (.inl rfl) (h.pc hs _) _
  | di => exact h.finish (hime (.inl rfl) hs _) _
  | ei => exact h.finish (hime (.inr (.inl rfl)) hs _) _
  | prefixCb => exact h.read hs fun sub _ => h.runCb hs sub
  | illegal op => exact endsIn_takeFault (h.fault hs)

/-! ### The step -/

/-- What a fetch answers: the opcode's bus fault, an operand's bus fault after `current_op` is written, or the instruction
read, with `current_op` written (30_encoding.md R119, R122). -/
theorem fetch_cases (s : State) :
    (∃ e, busRead s s.pc = .error e ∧ fetch s = .error (takeFault none none s e)) ∨
    (∃ op e, busRead s s.pc = .ok op ∧ fetchOperands (setCurrentOp s op) op = .error e ∧
      fetch s = .error (takeFault (some op) none (setCurrentOp s op) e)) ∨
    (∃ op i, busRead s s.pc = .ok op ∧ fetchOperands (setCurrentOp s op) op = .ok i ∧
      fetch s = .ok (i, setCurrentOp s op)) := by
  unfold fetch
  cases hop : busRead s s.pc with
  | error e => exact .inl ⟨e, rfl, rfl⟩
  | ok op =>
    cases hi : fetchOperands (setCurrentOp s op) op with
    | error e => exact .inr (.inl ⟨op, e, rfl, hi, by simp [hi]⟩)
    | ok i => exact .inr (.inr ⟨op, i, rfl, hi, by simp [hi]⟩)

/-- What a step can do: nothing but say why the state has no step, fault in the fetch, or run the fetched instruction. -/
theorem step_cases (s : State) :
    (∃ o, noStep s = some o ∧ step s = o) ∨
    (noStep s = none ∧ ∃ f, fetch s = .error f ∧ step s = .fault f) ∨
    (noStep s = none ∧ ∃ op i, busRead s s.pc = .ok op ∧ fetchOperands (setCurrentOp s op) op = .ok i ∧
      step s = exec i (setCurrentOp s op)) := by
  unfold step
  cases hn : noStep s with
  | some o => exact .inl ⟨o, rfl, rfl⟩
  | none =>
    refine .inr ?_
    rcases fetch_cases s with ⟨e, -, hf⟩ | ⟨op, e, -, -, hf⟩ | ⟨op, i, hop, hi, hf⟩
    · exact .inl ⟨rfl, _, hf, by simp [hf]⟩
    · exact .inl ⟨rfl, _, hf, by simp [hf]⟩
    · exact .inr ⟨rfl, op, i, hop, hi, by simp [hf]⟩

/-- A state without a step leaves no state. -/
theorem noStep_endsIn {P Q : State → Prop} {s : State} {o : Result} (h : noStep s = some o) : endsIn P Q o := by
  unfold noStep at h
  split at h
  · cases h; exact fun _ hl => nomatch hl
  · cases h; exact fun _ hl => nomatch hl
  · cases h; exact fun _ hl => nomatch hl
  · split at h
    · cases h; trivial
    · cases h

/-- What a step keeps: a property every update keeps. -/
theorem step_keeps {P Q : State → Prop} (h : Kept P Q) (hop : ∀ {s}, P s → ∀ op, P (setCurrentOp s op))
    (hime : ∀ {s}, P s → ∀ on, P (setIme s on)) (hrun : ∀ {s}, P s → ∀ r, P (setRun s r)) {s : State} (hs : P s) :
    endsIn P Q (step s) := by
  rcases step_cases s with ⟨o, hn, ho⟩ | ⟨-, f, hf, ho⟩ | ⟨-, op, i, -, -, ho⟩ <;> rw [ho]
  · exact noStep_endsIn hn
  · rcases fetch_cases s with ⟨e, -, he⟩ | ⟨op, e, -, -, he⟩ | ⟨op, i, -, -, he⟩ <;> rw [he] at hf <;> cases hf
    · exact endsIn_takeFault (h.fault hs)
    · exact endsIn_takeFault (h.fault (hop hs op))
  · exact exec_keeps h (fun _ => hime) (fun _ => hrun) (hop hs op)

end Sys2Proof.Machine
end

