-- ==== Sys2Proof/Laws/Step.lean ====
section
/-! SUPPORT. A step from its fetched opcode, and the CB table as the prefix handler's dispatch. -/

namespace Sys2Proof.Machine

/-- The instruction of a sub-opcode does what the prefix handler dispatches to (46_system.md R265). -/
theorem exec_decodeCb (s : State) : ∀ sub, exec (decodeCb sub) s = runCb s sub :=
  byte_cases fun n hn => by interval_cases n <;> rfl

/-- A step whose opcode is read: the instruction, in the state with `current_op` written, or the operand's fault. -/
theorem step_of_opcode {s : State} {op : Byte} (hn : noStep s = none) (hop : busRead s s.pc = .ok op) :
    step s =
      match fetchOperands (setCurrentOp s op) op with
      | .ok i => exec i (setCurrentOp s op)
      | .error e => .fault (takeFault (some op) none (setCurrentOp s op) e) := by
  simp only [step, hn, fetch, hop]
  cases fetchOperands (setCurrentOp s op) op <;> rfl

/-- The fetched instruction is one whose bytes begin with the opcode fetched. -/
theorem fetchOperands_head {s : State} {op : Byte} {i : Instr} (h : fetchOperands s op = .ok i) :
    (encode i).head? = some op := by
  have hrow := baseRow_encodes op
  unfold fetchOperands at h
  split at h <;> rename_i hr <;> rw [hr] at hrow <;> simp only [BaseRow.Encodes] at hrow
  · cases h
    rw [hrow.encoded]; rfl
  · split at h <;> cases h
    rw [(hrow _).encoded]; rfl
  · split at h
    · split at h <;> cases h
      rw [(hrow _).encoded]; rfl
    · cases h
  · cases h
    rw [hrow]; rfl
  · split at h <;> cases h
    · rw [(decodeCb_encodes _).encoded, hrow]; rfl
    · rw [hrow]; rfl

/-- A state with a step is running and holds no fault record. -/
theorem noStep_none {s : State} (h : noStep s = none) :
    s.run = .running ∧ s.fault = none ∧ interruptWouldBeTaken s = false := by
  unfold noStep at h
  split at h <;> first | cases h | skip
  split at h
  · cases h
  · exact ⟨by assumption, by assumption, eq_false_of_ne_true ‹_›⟩

end Sys2Proof.Machine
end

