-- ==== Sys2Proof/Tests/Slice0.lean ====
section
/-! SUPPORT. The model's own tests. Expected results are the spec's: the words of 30_encoding.md written out, the vectors of
95_test_vectors.md, the examples of the instruction rules. The witnesses at the end meet the hypotheses of the obligations. -/

namespace Sys2Proof.Tests

open Sys2Proof.Machine Sys2Proof.Claims

/-! ### Helpers -/

/-- The common start state of 95_test_vectors.md: every register zero, SP 0xFFFE, PC 0x0100, NoBanking without RAM. -/
def bare : State := { State.reset with a := 0, f := 0, b := 0, c := 0, d := 0, e := 0, h := 0, l := 0 }

/-- The same with the Banked controller, in its reset bank state. -/
def banked : State := { bare with config := { bare.config with controller := .banked } }

/-- The same with RAM banks, enabled or not. -/
def bankedWith (count size : Nat) (on : Bool) : State :=
  { banked with config := { banked.config with ramBankCount := count, ramBankSize := size }, ramEnabled := on }

/-- A byte behind a bus address. -/
def poke (address : Word) (v : Byte) (s : State) : State := putByte s address v

/-- Bytes from an address on. -/
def codeAt (address : Word) : List Byte → State → State
  | [], s => s
  | v :: rest, s => codeAt (address + 1) rest (poke address v s)

/-- Bytes from 0x0100 on. -/
def code (bytes : List Byte) (s : State) : State := codeAt 0x0100 bytes s

/-- One step gives exactly this state. -/
abbrev runs (s : State) (after : State → State) : Prop := nextOf (step s) = some (after s)

/-- The record a step's fault leaves, if it faults. -/
def faultOf : Host.Outcome State Fault Refusal → Option FaultRecord
  | .fault f => (leftBy f).bind fun left => left.fault
  | .next _ => none
  | .refused _ => none

/-- The state a step's fault leaves, if it faults. -/
def leftOf : Host.Outcome State Fault Refusal → Option State
  | .fault f => leftBy f
  | .next _ => none
  | .refused _ => none

/-- What a refused step says. -/
def refusalOf : Host.Outcome State Fault Refusal → Option Refusal
  | .refused r => some r
  | .next _ => none
  | .fault _ => none

/-- The byte of a read, if it does not fault. -/
def peek (s : State) (address : Word) : Option Byte := readByte s address

/-- The record of the bus fault of an access. -/
def record (kind : FaultKind) (pc : Word) (op : Byte) (address : Word) (bankOffset : Option (Nat × Nat)) : FaultRecord :=
  { kind := kind, pc := pc, opcode := some op, sub := none, address := address, bankOffset := bankOffset }

/-! ### Well-formedness -/

/-- An ILLEGAL that carries a defined opcode is ill formed. -/
theorem test_wellFormed_refuses_a_defined_opcode : (Instr.illegal 0x00).wellFormed = false := by decide

theorem test_wellFormed_accepts_the_illegal_opcodes : ∀ op ∈ illegalBytes, (Instr.illegal op).wellFormed = true := by decide

/-! ### Decoding: words written out bit by bit from the patterns of 30_encoding.md and the rules -/

theorem test_decode_ld_r_r : decode [0b01001000] = .ok (.ldCB, []) := rfl
theorem test_decode_ld_r_n : decode [0b00011110, 0b10000000] = .ok (.ldEN 0x80, []) := rfl
theorem test_decode_ld_r_indHl : decode [0b01101110] = .ok (.ldLIndHl, []) := rfl
theorem test_decode_ld_indHl_r : decode [0b01110011] = .ok (.ldIndHlE, []) := rfl
theorem test_decode_halt_in_place_of_ld : decode [0b01110110] = .ok (.halt, []) := rfl
theorem test_decode_ld_indHl_n : decode [0b00110110, 0xA5] = .ok (.ldIndHlN 0xA5, []) := rfl
theorem test_decode_ld_a_indDe : decode [0b00011010] = .ok (.ldAIndDe, []) := rfl
theorem test_decode_ld_indBc_a : decode [0b00000010] = .ok (.ldIndBcA, []) := rfl
theorem test_decode_ld_a_indNn : decode [0xFA, 0x34, 0x12] = .ok (.ldAIndNn 0x1234, []) := rfl
theorem test_decode_ldh_a_n : decode [0xF0, 0x80] = .ok (.ldhAIndN 0x80, []) := rfl
theorem test_decode_ld_indC_a : decode [0xE2] = .ok (.ldIndCA, []) := rfl
theorem test_decode_ldd : decode [0b00111010] = .ok (.ldAIndHlDec, []) := rfl
theorem test_decode_ld_rr_nn : decode [0b00010001, 0x34, 0x12] = .ok (.ldDeNn 0x1234, []) := rfl
theorem test_decode_ld_nn_sp : decode [0x08, 0x00, 0xC0] = .ok (.ldIndNnSp 0xC000, []) := rfl
theorem test_decode_ld_hl_sp_e : decode [0xF8, 0x02] = .ok (.ldHlSpE 0x02, []) := rfl
theorem test_decode_push : decode [0b11100101] = .ok (.pushHl, []) := rfl
theorem test_decode_pop : decode [0b11110001] = .ok (.popAf, []) := rfl
theorem test_decode_alu_r : decode [0b10011010] = .ok (.sbcAD, []) := rfl
theorem test_decode_alu_indHl : decode [0b10110110] = .ok (.orAIndHl, []) := rfl
theorem test_decode_alu_n : decode [0b11111110, 0x40] = .ok (.cpAN 0x40, []) := rfl
theorem test_decode_inc_r : decode [0b00101100] = .ok (.incL, []) := rfl
theorem test_decode_dec_indHl : decode [0b00110101] = .ok (.decIndHl, []) := rfl
theorem test_decode_daa : decode [0b00100111] = .ok (.daa, []) := rfl
theorem test_decode_add_hl_rr : decode [0b00111001] = .ok (.addHlSp, []) := rfl
theorem test_decode_dec_rr : decode [0b00011011] = .ok (.decDe, []) := rfl
theorem test_decode_add_sp_e : decode [0xE8, 0xFF] = .ok (.addSpE 0xFF, []) := rfl
theorem test_decode_rra : decode [0b00011111] = .ok (.rra, []) := rfl
theorem test_decode_cb_rotate : decode [0xCB, 0b00101100] = .ok (.sraH, []) := rfl
theorem test_decode_cb_swap : decode [0xCB, 0b00110110] = .ok (.swapIndHl, []) := rfl
theorem test_decode_cb_bit : decode [0xCB, 0b01111110] = .ok (.bit7IndHl, []) := rfl
theorem test_decode_cb_res : decode [0xCB, 0b10011001] = .ok (.res3C, []) := rfl
theorem test_decode_cb_set : decode [0xCB, 0b11000111] = .ok (.set0A, []) := rfl
theorem test_decode_jp_cc : decode [0b11011010, 0x00, 0x20] = .ok (.jpCNn 0x2000, []) := rfl
theorem test_decode_jr_cc : decode [0b00110000, 0x02] = .ok (.jrNcE 0x02, []) := rfl
theorem test_decode_jp_hl : decode [0b11101001] = .ok (.jpHl, []) := rfl
theorem test_decode_call_cc : decode [0b11001100, 0x00, 0x30] = .ok (.callZNn 0x3000, []) := rfl
theorem test_decode_ret_cc : decode [0b11000000] = .ok (.retNz, []) := rfl
theorem test_decode_reti : decode [0b11011001] = .ok (.reti, []) := rfl
theorem test_decode_rst : decode [0b11101111] = .ok (.rst28, []) := rfl
theorem test_decode_stop_any_second_byte : decode [0x10, 0xAB, 0x00] = .ok (.stop, [0x00]) := rfl
theorem test_decode_ei : decode [0b11111011] = .ok (.ei, []) := rfl
theorem test_decode_illegal : decode [0xED] = .ok (.illegal 0xED, []) := rfl
theorem test_decode_prefix_alone : decode [0xCB] = .ok (.prefixCb, []) := rfl
theorem test_decode_truncated : ∃ e, decode [0x21, 0x34] = .error e := ⟨_, rfl⟩
theorem test_decode_empty : ∃ e, decode [] = .error e := ⟨_, rfl⟩

/-! ### The host's two entry points -/

theorem test_decodeTableWord_base : decodeTableWord 8 0x3E = some (.ldAN 0x00) := by decide
theorem test_decodeTableWord_cb : decodeTableWord 16 0xCB7E = some .bit7IndHl := by decide
theorem test_decodeTableWord_prefix : decodeTableWord 8 0xCB = some .prefixCb := by decide

theorem test_withFetchWord_base :
    nextOf (step (State.reset.withFetchWord 8 0x04)) =
      some { State.reset.withFetchWord 8 0x04 with b := 0x01, f := 0x10, pc := 0x0101, currentOp := 0x04 } := by decide
theorem test_withFetchWord_cb :
    nextOf (step (State.reset.withFetchWord 16 0xCBC0)) =
      some { State.reset.withFetchWord 16 0xCBC0 with b := 0x01, pc := 0x0102, currentOp := 0xCB } := by decide

/-! ### Loads (95_test_vectors.md VL1 and on) -/

/-- VL1: LD B,C. -/
theorem test_vl1 :
    runs { (code [0x41] bare) with c := 0x5A }
      (fun s => { s with b := 0x5A, pc := 0x0101, currentOp := 0x41 }) := by decide
/-- VL2: LD A,A (same register). -/
theorem test_vl2 :
    runs { (code [0x7F] bare) with a := 0x33 }
      (fun s => { s with pc := 0x0101, currentOp := 0x7F }) := by decide
/-- VL3: LD (HL),A. -/
theorem test_vl3 :
    runs { (code [0x77] bare) with a := 0x99, h := 0xC0, l := 0x10 }
      (fun s => { (poke 0xC010 0x99 s) with pc := 0x0101, currentOp := 0x77 }) := by decide
/-- VL4: LD A,(HL+) at HL=0xC0FF. -/
theorem test_vl4 :
    runs { (poke 0xC0FF 0x11 (code [0x2A] bare)) with h := 0xC0, l := 0xFF }
      (fun s => { s with a := 0x11, h := 0xC1, l := 0x00, pc := 0x0101, currentOp := 0x2A }) := by decide
/-- VL5: LD (HL-),A at HL=0xC000. -/
theorem test_vl5 :
    runs { (code [0x32] bare) with a := 0x77, h := 0xC0, l := 0x00 }
      (fun s => { (poke 0xC000 0x77 s) with h := 0xBF, l := 0xFF, pc := 0x0101, currentOp := 0x32 }) := by decide
/-- VL6: LD A,(HL-) HL=0xFF80 (HRAM). -/
theorem test_vl6 :
    runs { (poke 0xFF80 0x3C (code [0x3A] bare)) with h := 0xFF, l := 0x80 }
      (fun s => { s with a := 0x3C, l := 0x7F, pc := 0x0101, currentOp := 0x3A }) := by decide
/-- VL7: LD (BC),A to echo RAM. -/
theorem test_vl7 :
    runs { (code [0x02] bare) with a := 0x5E, b := 0xE0, c := 0x05 }
      (fun s => { (poke 0xC005 0x5E s) with pc := 0x0101, currentOp := 0x02 }) := by decide
/-- VL8: LD A,(DE) from echo RAM sees WRAM. -/
theorem test_vl8 :
    runs { (poke 0xC100 0x4D (code [0x1A] bare)) with d := 0xE1, e := 0x00 }
      (fun s => { s with a := 0x4D, pc := 0x0101, currentOp := 0x1A }) := by decide
/-- VL9: LD r,n (LD E,0x80). -/
theorem test_vl9 :
    runs (code [0x1E, 0x80] bare)
      (fun s => { s with e := 0x80, pc := 0x0102, currentOp := 0x1E }) := by decide
/-- VL10: LD (HL),n. -/
theorem test_vl10 :
    runs { (code [0x36, 0xA5] bare) with h := 0xD0, l := 0x00 }
      (fun s => { (poke 0xD000 0xA5 s) with pc := 0x0102, currentOp := 0x36 }) := by decide
/-- VL11: LD rr,nn (LD SP,0xDFFF). -/
theorem test_vl11 :
    runs (code [0x31, 0xFF, 0xDF] bare)
      (fun s => { s with sp := 0xDFFF, pc := 0x0103, currentOp := 0x31 }) := by decide
/-- VL12: LD (nn),SP. -/
theorem test_vl12 :
    runs { (code [0x08, 0x00, 0xC1] bare) with sp := 0xABCD }
      (fun s => { (poke 0xC101 0xAB (poke 0xC100 0xCD s)) with pc := 0x0103, currentOp := 0x08 }) := by decide
/-- VL14: LDH A,(n) from IE (n=0xFF). -/
theorem test_vl14 :
    runs (poke 0xFFFF 0x05 (code [0xF0, 0xFF] bare))
      (fun s => { s with a := 0x05, pc := 0x0102, currentOp := 0xF0 }) := by decide
/-- VL15: LD (C),A. -/
theorem test_vl15 :
    runs { (code [0xE2] bare) with a := 0x42, c := 0x80 }
      (fun s => { (poke 0xFF80 0x42 s) with pc := 0x0101, currentOp := 0xE2 }) := by decide
/-- VL16: LD HL,SP+e, e=-1, SP=0x0000. -/
theorem test_vl16 :
    runs { (code [0xF8, 0xFF] bare) with sp := 0x0000 }
      (fun s => { s with h := 0xFF, l := 0xFF, pc := 0x0102, currentOp := 0xF8 }) := by decide
/-- VL17: LD HL,SP+e, e=+1, SP=0x00FF. -/
theorem test_vl17 :
    runs { (code [0xF8, 0x01] bare) with sp := 0x00FF }
      (fun s => { s with f := 0x30, h := 0x01, pc := 0x0102, currentOp := 0xF8 }) := by decide
/-- VL18: LD SP,HL. -/
theorem test_vl18 :
    runs { (code [0xF9] bare) with h := 0x12, l := 0x34 }
      (fun s => { s with sp := 0x1234, pc := 0x0101, currentOp := 0xF9 }) := by decide
/-- VL19: PUSH AF (F low nibble is 0). -/
theorem test_vl19 :
    runs { (code [0xF5] bare) with a := 0x12, f := 0xF0 }
      (fun s => { (poke 0xFFFD 0x12 (poke 0xFFFC 0xF0 s)) with sp := 0xFFFC, pc := 0x0101, currentOp := 0xF5 }) := by decide
/-- VL20: POP AF discards low nibble. -/
theorem test_vl20 :
    runs { (poke 0xC001 0x00 (poke 0xC000 0xFF (code [0xF1] bare))) with sp := 0xC000 }
      (fun s => { s with f := 0xF0, sp := 0xC002, pc := 0x0101, currentOp := 0xF1 }) := by decide
/-- VL21: POP BC at SP=0xFFFE reads HRAM and IE. -/
theorem test_vl21 :
    runs (poke 0xFFFF 0x12 (poke 0xFFFE 0x34 (code [0xC1] bare)))
      (fun s => { s with b := 0x12, c := 0x34, sp := 0x0000, pc := 0x0101, currentOp := 0xC1 }) := by decide
/-- VL23: LD A,(nn) from disabled cart RAM (Banked). -/
theorem test_vl23 :
    runs (code [0xFA, 0x00, 0xA0] (bankedWith 1 0x2000 false))
      (fun s => { s with a := 0xFF, pc := 0x0103, currentOp := 0xFA }) := by decide

/-! ### 8-bit arithmetic and logic (95_test_vectors.md VA1 and on) -/

/-- VA1: ADD A,B 0xFF+0x01 (source §8). -/
theorem test_va1 :
    runs { (code [0x80] bare) with a := 0xFF, b := 0x01 }
      (fun s => { s with a := 0x00, f := 0xB0, pc := 0x0101, currentOp := 0x80 }) := by decide
/-- VA2: ADD A,n 0x0F+0x01 half carry. -/
theorem test_va2 :
    runs { (code [0xC6, 0x01] bare) with a := 0x0F }
      (fun s => { s with a := 0x10, f := 0x20, pc := 0x0102, currentOp := 0xC6 }) := by decide
/-- VA3: ADD A,A 0x80+0x80. -/
theorem test_va3 :
    runs { (code [0x87] bare) with a := 0x80 }
      (fun s => { s with a := 0x00, f := 0x90, pc := 0x0101, currentOp := 0x87 }) := by decide
/-- VA4: ADC A,n A=0xFF, n=0x00, C=1 (source §9 boundary). -/
theorem test_va4 :
    runs { (code [0xCE, 0x00] bare) with a := 0xFF, f := 0x10 }
      (fun s => { s with a := 0x00, f := 0xB0, pc := 0x0102, currentOp := 0xCE }) := by decide
/-- VA5: ADC A,B 0x0E+0x01+1. -/
theorem test_va5 :
    runs { (code [0x88] bare) with a := 0x0E, f := 0x10, b := 0x01 }
      (fun s => { s with a := 0x10, f := 0x20, pc := 0x0101, currentOp := 0x88 }) := by decide
/-- VA6: ADC A,n with x=0xFF, C=1. -/
theorem test_va6 :
    runs { (code [0xCE, 0xFF] bare) with a := 0x01, f := 0x10 }
      (fun s => { s with f := 0x30, pc := 0x0102, currentOp := 0xCE }) := by decide
/-- VA7: SUB A,B equal. -/
theorem test_va7 :
    runs { (code [0x90] bare) with a := 0x3E, b := 0x3E }
      (fun s => { s with a := 0x00, f := 0xC0, pc := 0x0101, currentOp := 0x90 }) := by decide
/-- VA8: SUB A,n 0x10-0x01. -/
theorem test_va8 :
    runs { (code [0xD6, 0x01] bare) with a := 0x10 }
      (fun s => { s with a := 0x0F, f := 0x60, pc := 0x0102, currentOp := 0xD6 }) := by decide
/-- VA9: SUB A,n 0x00-0x01. -/
theorem test_va9 :
    runs { (code [0xD6, 0x01] bare) with a := 0x00 }
      (fun s => { s with a := 0xFF, f := 0x70, pc := 0x0102, currentOp := 0xD6 }) := by decide
/-- VA10: SBC A,n 0x00-0x00-1. -/
theorem test_va10 :
    runs { (code [0xDE, 0x00] bare) with a := 0x00, f := 0x10 }
      (fun s => { s with a := 0xFF, f := 0x70, pc := 0x0102, currentOp := 0xDE }) := by decide
/-- VA11: SBC A,B 0x10-0x0F-1. -/
theorem test_va11 :
    runs { (code [0x98] bare) with a := 0x10, f := 0x10, b := 0x0F }
      (fun s => { s with a := 0x00, f := 0xE0, pc := 0x0101, currentOp := 0x98 }) := by decide
/-- VA12: SBC A,n with x=0xFF, C=1. -/
theorem test_va12 :
    runs { (code [0xDE, 0xFF] bare) with a := 0x00, f := 0x10 }
      (fun s => { s with f := 0xF0, pc := 0x0102, currentOp := 0xDE }) := by decide
/-- VA13: AND A,n clears C, sets H. -/
theorem test_va13 :
    runs { (code [0xE6, 0xF0] bare) with a := 0x0F, f := 0x10 }
      (fun s => { s with a := 0x00, f := 0xA0, pc := 0x0102, currentOp := 0xE6 }) := by decide
/-- VA14: XOR A,A. -/
theorem test_va14 :
    runs { (code [0xAF] bare) with a := 0x5A, f := 0x70 }
      (fun s => { s with a := 0x00, f := 0x80, pc := 0x0101, currentOp := 0xAF }) := by decide
/-- VA15: OR A,(HL). -/
theorem test_va15 :
    runs { (poke 0xC000 0x00 (code [0xB6] bare)) with a := 0x00, h := 0xC0, l := 0x00 }
      (fun s => { s with f := 0x80, pc := 0x0101, currentOp := 0xB6 }) := by decide
/-- VA16: CP A,n equal. -/
theorem test_va16 :
    runs { (code [0xFE, 0x42] bare) with a := 0x42 }
      (fun s => { s with f := 0xC0, pc := 0x0102, currentOp := 0xFE }) := by decide
/-- VA17: CP A,n A<n. -/
theorem test_va17 :
    runs { (code [0xFE, 0x43] bare) with a := 0x42 }
      (fun s => { s with f := 0x70, pc := 0x0102, currentOp := 0xFE }) := by decide
/-- VA18: INC B 0xFF (source §8). -/
theorem test_va18 :
    runs { (code [0x04] bare) with b := 0xFF }
      (fun s => { s with f := 0xA0, b := 0x00, pc := 0x0101, currentOp := 0x04 }) := by decide
/-- VA19: INC A 0x0F keeps C. -/
theorem test_va19 :
    runs { (code [0x3C] bare) with a := 0x0F, f := 0x10 }
      (fun s => { s with a := 0x10, f := 0x30, pc := 0x0101, currentOp := 0x3C }) := by decide
/-- VA20: DEC B 0x00 (source §8). -/
theorem test_va20 :
    runs { (code [0x05] bare) with b := 0x00 }
      (fun s => { s with f := 0x60, b := 0xFF, pc := 0x0101, currentOp := 0x05 }) := by decide
/-- VA21: DEC C 0x01. -/
theorem test_va21 :
    runs { (code [0x0D] bare) with c := 0x01 }
      (fun s => { s with f := 0xC0, c := 0x00, pc := 0x0101, currentOp := 0x0D }) := by decide
/-- VA22: DEC (HL) 0x10. -/
theorem test_va22 :
    runs { (poke 0xC000 0x10 (code [0x35] bare)) with h := 0xC0, l := 0x00 }
      (fun s => { (poke 0xC000 0x0F s) with f := 0x60, pc := 0x0101, currentOp := 0x35 }) := by decide
/-- VA23: INC (HL) at ROM 0x0000 (control write, NoBanking: ignored). -/
theorem test_va23 :
    runs { (code [0x34] bare) with h := 0x00, l := 0x00 }
      (fun s => { s with pc := 0x0101, currentOp := 0x34 }) := by decide
/-- VA25: DAA A=0x9A N=0. -/
theorem test_va25 :
    runs { (code [0x27] bare) with a := 0x9A }
      (fun s => { s with a := 0x00, f := 0x90, pc := 0x0101, currentOp := 0x27 }) := by decide
/-- VA26: DAA after SUB (A=0x0F, N=1, H=1). -/
theorem test_va26 :
    runs { (code [0x27] bare) with a := 0x0F, f := 0x60 }
      (fun s => { s with a := 0x09, f := 0x40, pc := 0x0101, currentOp := 0x27 }) := by decide
/-- VA28: CPL. -/
theorem test_va28 :
    runs { (code [0x2F] bare) with a := 0x35, f := 0x90 }
      (fun s => { s with a := 0xCA, f := 0xF0, pc := 0x0101, currentOp := 0x2F }) := by decide
/-- VA29: SCF. -/
theorem test_va29 :
    runs { (code [0x37] bare) with f := 0xE0 }
      (fun s => { s with f := 0x90, pc := 0x0101, currentOp := 0x37 }) := by decide
/-- VA30: CCF C=1. -/
theorem test_va30 :
    runs { (code [0x3F] bare) with f := 0xF0 }
      (fun s => { s with f := 0x80, pc := 0x0101, currentOp := 0x3F }) := by decide

/-! ### 16-bit arithmetic (95_test_vectors.md VW1 and on) -/

/-- VW1: ADD HL,BC 0x0FFF+0x0001. -/
theorem test_vw1 :
    runs { (code [0x09] bare) with b := 0x00, c := 0x01, h := 0x0F, l := 0xFF }
      (fun s => { s with f := 0x20, h := 0x10, l := 0x00, pc := 0x0101, currentOp := 0x09 }) := by decide
/-- VW2: ADD HL,DE 0xFFFF+0x0001, Z kept set. -/
theorem test_vw2 :
    runs { (code [0x19] bare) with f := 0x80, d := 0x00, e := 0x01, h := 0xFF, l := 0xFF }
      (fun s => { s with f := 0xB0, h := 0x00, l := 0x00, pc := 0x0101, currentOp := 0x19 }) := by decide
/-- VW3: ADD HL,SP. -/
theorem test_vw3 :
    runs { (code [0x39] bare) with h := 0x12, l := 0x34, sp := 0x0100 }
      (fun s => { s with h := 0x13, pc := 0x0101, currentOp := 0x39 }) := by decide
/-- VW4: INC SP at 0xFFFF. -/
theorem test_vw4 :
    runs { (code [0x33] bare) with sp := 0xFFFF }
      (fun s => { s with sp := 0x0000, pc := 0x0101, currentOp := 0x33 }) := by decide
/-- VW5: DEC BC at 0x0000, flags kept. -/
theorem test_vw5 :
    runs { (code [0x0B] bare) with f := 0xF0 }
      (fun s => { s with b := 0xFF, c := 0xFF, pc := 0x0101, currentOp := 0x0B }) := by decide
/-- VW6: ADD SP,e e=-1 SP=0x0000. -/
theorem test_vw6 :
    runs { (code [0xE8, 0xFF] bare) with sp := 0x0000 }
      (fun s => { s with sp := 0xFFFF, pc := 0x0102, currentOp := 0xE8 }) := by decide
/-- VW7: ADD SP,e e=+1 SP=0x00FF. -/
theorem test_vw7 :
    runs { (code [0xE8, 0x01] bare) with sp := 0x00FF }
      (fun s => { s with f := 0x30, sp := 0x0100, pc := 0x0102, currentOp := 0xE8 }) := by decide
/-- VW8: ADD SP,e e=-128 SP=0xC000. -/
theorem test_vw8 :
    runs { (code [0xE8, 0x80] bare) with f := 0x80, sp := 0xC000 }
      (fun s => { s with f := 0x00, sp := 0xBF80, pc := 0x0102, currentOp := 0xE8 }) := by decide

/-! ### Rotates and shifts (95_test_vectors.md VR1 and on) -/

/-- VR1: RLCA A=0x80. -/
theorem test_vr1 :
    runs { (code [0x07] bare) with a := 0x80 }
      (fun s => { s with a := 0x01, f := 0x10, pc := 0x0101, currentOp := 0x07 }) := by decide
/-- VR2: RLCA A=0x00 (Z stays 0). -/
theorem test_vr2 :
    runs { (code [0x07] bare) with a := 0x00, f := 0x80 }
      (fun s => { s with f := 0x00, pc := 0x0101, currentOp := 0x07 }) := by decide
/-- VR3: RRCA A=0x01. -/
theorem test_vr3 :
    runs { (code [0x0F] bare) with a := 0x01 }
      (fun s => { s with a := 0x80, f := 0x10, pc := 0x0101, currentOp := 0x0F }) := by decide
/-- VR4: RLA A=0x80 C=0. -/
theorem test_vr4 :
    runs { (code [0x17] bare) with a := 0x80 }
      (fun s => { s with a := 0x00, f := 0x10, pc := 0x0101, currentOp := 0x17 }) := by decide
/-- VR5: RRA A=0x01 C=1. -/
theorem test_vr5 :
    runs { (code [0x1F] bare) with a := 0x01, f := 0x10 }
      (fun s => { s with a := 0x80, pc := 0x0101, currentOp := 0x1F }) := by decide
/-- VR6: RLC B=0x00. -/
theorem test_vr6 :
    runs { (code [0xCB, 0x00] bare) with b := 0x00 }
      (fun s => { s with f := 0x80, pc := 0x0102, currentOp := 0xCB }) := by decide
/-- VR7: RLC (HL)=0x81. -/
theorem test_vr7 :
    runs { (poke 0xC000 0x81 (code [0xCB, 0x06] bare)) with h := 0xC0, l := 0x00 }
      (fun s => { (poke 0xC000 0x03 s) with f := 0x10, pc := 0x0102, currentOp := 0xCB }) := by decide
/-- VR8: RRC A=0x01. -/
theorem test_vr8 :
    runs { (code [0xCB, 0x0F] bare) with a := 0x01 }
      (fun s => { s with a := 0x80, f := 0x10, pc := 0x0102, currentOp := 0xCB }) := by decide
/-- VR9: RL C=0x80 carry 0. -/
theorem test_vr9 :
    runs { (code [0xCB, 0x11] bare) with c := 0x80 }
      (fun s => { s with f := 0x90, c := 0x00, pc := 0x0102, currentOp := 0xCB }) := by decide
/-- VR10: RR D=0x01 carry 1. -/
theorem test_vr10 :
    runs { (code [0xCB, 0x1A] bare) with f := 0x10, d := 0x01 }
      (fun s => { s with d := 0x80, pc := 0x0102, currentOp := 0xCB }) := by decide
/-- VR11: SLA E=0xC0. -/
theorem test_vr11 :
    runs { (code [0xCB, 0x23] bare) with e := 0xC0 }
      (fun s => { s with f := 0x10, e := 0x80, pc := 0x0102, currentOp := 0xCB }) := by decide
/-- VR12: SRA H=0x81. -/
theorem test_vr12 :
    runs { (code [0xCB, 0x2C] bare) with h := 0x81 }
      (fun s => { s with f := 0x10, h := 0xC0, pc := 0x0102, currentOp := 0xCB }) := by decide
/-- VR13: SWAP L=0x00, C was 1. -/
theorem test_vr13 :
    runs { (code [0xCB, 0x35] bare) with f := 0x10, l := 0x00 }
      (fun s => { s with f := 0x80, pc := 0x0102, currentOp := 0xCB }) := by decide
/-- VR14: SWAP A=0x12. -/
theorem test_vr14 :
    runs { (code [0xCB, 0x37] bare) with a := 0x12 }
      (fun s => { s with a := 0x21, pc := 0x0102, currentOp := 0xCB }) := by decide
/-- VR15: SRL A=0x01. -/
theorem test_vr15 :
    runs { (code [0xCB, 0x3F] bare) with a := 0x01 }
      (fun s => { s with a := 0x00, f := 0x90, pc := 0x0102, currentOp := 0xCB }) := by decide
/-- VR16: SRL (HL)=0x80. -/
theorem test_vr16 :
    runs { (poke 0xC000 0x80 (code [0xCB, 0x3E] bare)) with h := 0xC0, l := 0x00 }
      (fun s => { (poke 0xC000 0x40 s) with pc := 0x0102, currentOp := 0xCB }) := by decide

/-! ### Bits (95_test_vectors.md VB1 and on) -/

/-- VB1: BIT 0,B with B=0xFE, C=1. -/
theorem test_vb1 :
    runs { (code [0xCB, 0x40] bare) with f := 0x10, b := 0xFE }
      (fun s => { s with f := 0xB0, pc := 0x0102, currentOp := 0xCB }) := by decide
/-- VB2: BIT 7,(HL) with 0x80. -/
theorem test_vb2 :
    runs { (poke 0xC000 0x80 (code [0xCB, 0x7E] bare)) with h := 0xC0, l := 0x00 }
      (fun s => { s with f := 0x20, pc := 0x0102, currentOp := 0xCB }) := by decide
/-- VB3: BIT 3,A, value unchanged. -/
theorem test_vb3 :
    runs { (code [0xCB, 0x5F] bare) with a := 0x08, f := 0x40 }
      (fun s => { s with f := 0x20, pc := 0x0102, currentOp := 0xCB }) := by decide
/-- VB4: RES 7,A. -/
theorem test_vb4 :
    runs { (code [0xCB, 0xBF] bare) with a := 0xFF, f := 0xF0 }
      (fun s => { s with a := 0x7F, pc := 0x0102, currentOp := 0xCB }) := by decide
/-- VB5: RES 0,(HL). -/
theorem test_vb5 :
    runs { (poke 0xC000 0x01 (code [0xCB, 0x86] bare)) with h := 0xC0, l := 0x00 }
      (fun s => { (poke 0xC000 0x00 s) with pc := 0x0102, currentOp := 0xCB }) := by decide
/-- VB6: SET 0,(HL). -/
theorem test_vb6 :
    runs { (poke 0xC000 0x00 (code [0xCB, 0xC6] bare)) with h := 0xC0, l := 0x00 }
      (fun s => { (poke 0xC000 0x01 s) with pc := 0x0102, currentOp := 0xCB }) := by decide
/-- VB7: SET 7,H. -/
theorem test_vb7 :
    runs { (code [0xCB, 0xFC] bare) with h := 0x00 }
      (fun s => { s with h := 0x80, pc := 0x0102, currentOp := 0xCB }) := by decide

/-! ### Control transfer (95_test_vectors.md VJ1 and on) -/

/-- VJ1: JP nn. -/
theorem test_vj1 :
    runs (code [0xC3, 0x34, 0x12] bare)
      (fun s => { s with pc := 0x1234, currentOp := 0xC3 }) := by decide
/-- VJ2: JP NZ,nn not taken (Z=1). -/
theorem test_vj2 :
    runs { (code [0xC2, 0x00, 0x20] bare) with f := 0x80 }
      (fun s => { s with pc := 0x0103, currentOp := 0xC2 }) := by decide
/-- VJ3: JP C,nn taken. -/
theorem test_vj3 :
    runs { (code [0xDA, 0x00, 0x20] bare) with f := 0x10 }
      (fun s => { s with pc := 0x2000, currentOp := 0xDA }) := by decide
/-- VJ4: JP HL. -/
theorem test_vj4 :
    runs { (code [0xE9] bare) with h := 0xC0, l := 0x00 }
      (fun s => { s with pc := 0xC000, currentOp := 0xE9 }) := by decide
/-- VJ5: JR e=+127. -/
theorem test_vj5 :
    runs (code [0x18, 0x7F] bare)
      (fun s => { s with pc := 0x0181, currentOp := 0x18 }) := by decide
/-- VJ6: JR e=-128. -/
theorem test_vj6 :
    runs (code [0x18, 0x80] bare)
      (fun s => { s with pc := 0x0082, currentOp := 0x18 }) := by decide
/-- VJ7: JR Z,e not taken. -/
theorem test_vj7 :
    runs (code [0x28, 0x10] bare)
      (fun s => { s with pc := 0x0102, currentOp := 0x28 }) := by decide
/-- VJ8: JR NC,e taken. -/
theorem test_vj8 :
    runs (code [0x30, 0x02] bare)
      (fun s => { s with pc := 0x0104, currentOp := 0x30 }) := by decide
/-- VJ9: CALL nn. -/
theorem test_vj9 :
    runs (code [0xCD, 0x00, 0x30] bare)
      (fun s => { (poke 0xFFFD 0x01 (poke 0xFFFC 0x03 s)) with sp := 0xFFFC, pc := 0x3000, currentOp := 0xCD }) := by decide
/-- VJ10: CALL Z,nn not taken. -/
theorem test_vj10 :
    runs (code [0xCC, 0x00, 0x30] bare)
      (fun s => { s with pc := 0x0103, currentOp := 0xCC }) := by decide
/-- VJ11: CALL NC,nn taken, SP=0xD000. -/
theorem test_vj11 :
    runs { (code [0xD4, 0x00, 0x30] bare) with sp := 0xD000 }
      (fun s => { (poke 0xCFFF 0x01 (poke 0xCFFE 0x03 s)) with sp := 0xCFFE, pc := 0x3000, currentOp := 0xD4 }) := by decide
/-- VJ12: RET. -/
theorem test_vj12 :
    runs { (poke 0xC001 0x12 (poke 0xC000 0x34 (code [0xC9] bare))) with sp := 0xC000 }
      (fun s => { s with sp := 0xC002, pc := 0x1234, currentOp := 0xC9 }) := by decide
/-- VJ13: RET C not taken. -/
theorem test_vj13 :
    runs { (poke 0xC001 0x12 (poke 0xC000 0x34 (code [0xD8] bare))) with sp := 0xC000 }
      (fun s => { s with pc := 0x0101, currentOp := 0xD8 }) := by decide
/-- VJ14: RET NZ taken. -/
theorem test_vj14 :
    runs { (poke 0xC001 0x12 (poke 0xC000 0x34 (code [0xC0] bare))) with sp := 0xC000 }
      (fun s => { s with sp := 0xC002, pc := 0x1234, currentOp := 0xC0 }) := by decide
/-- VJ15: RETI. -/
theorem test_vj15 :
    runs { (poke 0xC001 0x12 (poke 0xC000 0x34 (code [0xD9] bare))) with sp := 0xC000 }
      (fun s => { s with sp := 0xC002, pc := 0x1234, ime := true, currentOp := 0xD9 }) := by decide
/-- VJ16: RST 0x38. -/
theorem test_vj16 :
    runs (code [0xFF] bare)
      (fun s => { (poke 0xFFFD 0x01 (poke 0xFFFC 0x01 s)) with sp := 0xFFFC, pc := 0x0038, currentOp := 0xFF }) := by decide
/-- VJ18: RET with SP=0xFFFF wraps. -/
theorem test_vj18 :
    runs { (poke 0xFFFF 0x00 (code [0xC9] bare)) with sp := 0xFFFF }
      (fun s => { s with sp := 0x0001, pc := 0x0000, currentOp := 0xC9 }) := by decide

/-! ### System, faults and bank control (95_test_vectors.md VX1 and on) -/

/-- VX1: NOP. -/
theorem test_vx1 :
    runs (code [0x00] bare)
      (fun s => { s with pc := 0x0101, currentOp := 0x00 }) := by decide
/-- VX2: DI. -/
theorem test_vx2 :
    runs { (code [0xF3] bare) with ime := true }
      (fun s => { s with pc := 0x0101, ime := false, currentOp := 0xF3 }) := by decide
/-- VX3: EI. -/
theorem test_vx3 :
    runs (code [0xFB] bare)
      (fun s => { s with pc := 0x0101, ime := true, currentOp := 0xFB }) := by decide
/-- VX4: HALT. -/
theorem test_vx4 :
    runs (code [0x76] bare)
      (fun s => { s with pc := 0x0101, run := .halted, currentOp := 0x76 }) := by decide
/-- VX5: STOP. -/
theorem test_vx5 :
    runs (code [0x10, 0x00] bare)
      (fun s => { s with pc := 0x0102, run := .stopped, currentOp := 0x10 }) := by decide
/-- VX12: ROM bank write 0x00 selects 1. -/
theorem test_vx12 :
    runs { (code [0xEA, 0x00, 0x20] banked) with a := 0x00, activeRomBank := 3 }
      (fun s => { s with pc := 0x0103, activeRomBank := 1, currentOp := 0xEA }) := by decide
/-- VX14: RAM bank write 0xFE. -/
theorem test_vx14 :
    runs { (code [0xEA, 0x00, 0x40] banked) with a := 0xFE }
      (fun s => { s with pc := 0x0103, activeRamBank := 2, currentOp := 0xEA }) := by decide

/-! ### Steps that fault, and the fault record -/

/-- VL22: LD A,(nn) from 0xFEA0. -/
theorem test_vl22 : faultOf (step (code [0xFA, 0xA0, 0xFE] bare)) =
    some (record .unusableAddress 0x0100 0xFA 0xFEA0 none) := by decide
/-- VL24: LD (HL),A to enabled cartridge RAM that has no bank. -/
theorem test_vl24 : faultOf (step { code [0x77] (bankedWith 0 0 true) with h := 0xA0, l := 0x00 }) =
    some (record .ramBankOutOfRange 0x0100 0x77 0xA000 (some (0x0, 0x0))) := by decide
/-- VJ17: CALL with SP = 0xFF00. -/
theorem test_vj17 : faultOf (step { code [0xCD, 0x00, 0x30] bare with sp := 0xFF00 }) =
    some (record .unusableAddress 0x0100 0xCD 0xFEFF none) := by decide
/-- VX7: illegal 0xD3 at 0x0150, and PC keeps its address (P6). -/
theorem test_vx7 : faultOf (step { codeAt 0x0150 [0xD3] bare with pc := 0x0150 }) =
    some (record .illegalOpcode 0x0150 0xD3 0x0150 none) := by decide
/-- VX8: a fetch from 0xFEA0; no opcode was fetched. -/
theorem test_vx8 : faultOf (step { bare with pc := 0xFEA0 }) =
    some { kind := .unusableAddress, pc := 0xFEA0, opcode := none, sub := none, address := 0xFEA0, bankOffset := none } := by
  decide
/-- VX9: a window read of bank 5 of a four-bank image. -/
theorem test_vx9 :
    busRead { banked with config := { banked.config with romBankCount := 4 }, activeRomBank := 5 } 0x4000 =
      .error { kind := .romBankOutOfRange, address := 0x4000, bankOffset := some (0x5, 0x0) } := rfl
/-- R308: a PUSH whose second write faults has stored the high byte, and SP is as it was. -/
theorem test_partial_push :
    leftOf (step { code [0xC5] bare with b := 0x12, c := 0x34, sp := 0xFF01 }) =
      some { code [0xC5] bare with
        b := 0x12, c := 0x34, sp := 0xFF01, io := [(0x00, 0x12)], currentOp := 0xC5,
        fault := some (record .unusableAddress 0x0100 0xC5 0xFEFF none) } := by decide
/-- R307: a fault behind the prefix records the sub-opcode. -/
theorem test_prefixed_fault : faultOf (step { code [0xCB, 0x06] bare with h := 0xFE, l := 0xA0 }) =
    some { record .unusableAddress 0x0100 0xCB 0xFEA0 none with sub := some 0x06 } := by decide

/-! ### Bank control (S6, VX10-VX17, as writes of the bus) -/

theorem test_control_writes :
    (busWrite banked 0x0000 0x0A).toOption = some { banked with ramEnabled := true } ∧
    (busWrite { banked with ramEnabled := true } 0x0000 0x00).toOption = some banked ∧
    (busWrite banked 0x1000 0x1A).toOption = some { banked with ramEnabled := true } ∧
    (busWrite banked 0x3000 0xE3).toOption = some { banked with activeRomBank := 3 } ∧
    (busWrite banked 0x6000 0x01).toOption = some { banked with bankingMode := 1 } ∧
    (busWrite bare 0x0000 0x0A).toOption = some bare := by decide

/-! ### States without a step, and the interrupt policy (R311, R262) -/

/-- The start state under INTERRUPT_POLICY = refuse_when_pending. -/
def refusing : State := { bare with config := { bare.config with interruptPolicy := .refuseWhenPending } }

theorem test_halted_has_no_step : step { bare with run := .halted } = .fault .noStepHalted := rfl
theorem test_stopped_has_no_step : step { bare with run := .stopped } = .fault .noStepStopped := rfl
theorem test_refuse_when_pending :
    refusalOf (step { refusing with ime := true, ie := 0x01, io := [(0x0F, 0x01)] }) =
      some .interruptWouldBeTaken := by decide
theorem test_halt_refused_whatever_ime_is :
    refusalOf (exec .halt { refusing with ie := 0x1F, io := [(0x0F, 0x10)] }) =
      some .haltWithInterruptPending := by decide
theorem test_ignore_runs_on :
    runs { code [0x00] bare with ime := true, ie := 0x01, io := [(0x0F, 0x01)] }
      (fun s => { s with pc := 0x0101 }) := by decide

/-! ### Construction (95_test_vectors.md VH1-VH9) -/

/-- An image of 0x8000 bytes with these header bytes. -/
def image (bytes : Memory) : Image := { length := 0x8000, bytes := bytes }

theorem test_vh1 : construct { length := 0x9000, bytes := [] } Params.default = .error (.badLength 0x9000) := rfl
theorem test_vh2 : construct { length := 0x4000, bytes := [] } Params.default = .error (.badLength 0x4000) := rfl
theorem test_vh3 : construct (image [(0x147, 0x13)]) Params.default =
    .error (.unsupportedController .mbc3RamBattery) := rfl
theorem test_vh4 : (parseHeader (image [(0x147, 0x42)])).kind = .unknown 0x42 ∧
    ∃ s, construct (image [(0x147, 0x42)]) Params.default = .ok s ∧ s.config.controller = .noBanking := ⟨rfl, _, rfl, rfl⟩
theorem test_vh5 : ∃ s, construct (image [(0x147, 0x03), (0x149, 0x03)]) Params.default = .ok s ∧
    s.config.ramBankCount = 4 ∧ s.config.ramBankSize = 0x2000 ∧ s.config.controller = .banked ∧ s.ramEnabled = false :=
  ⟨_, rfl, rfl, rfl, rfl, rfl⟩
theorem test_vh6 : ∃ s, construct (image [(0x149, 0x02)]) Params.default = .ok s ∧
    s.config.ramBankCount = 1 ∧ s.ramEnabled = true ∧ busRead s 0xA000 = .ok 0x00 := ⟨_, rfl, rfl, rfl, rfl⟩
theorem test_vh7 :
    peek (bankedWith 1 0x800 true) 0xA7FF = some 0x00 ∧
    busRead (bankedWith 1 0x800 true) 0xA800 =
      .error { kind := .ramBankOutOfRange, address := 0xA800, bankOffset := some (0, 0x800) } := ⟨by decide, rfl⟩
theorem test_vh8 :
    (parseHeader (image [(0x134, 0x54), (0x135, 0x45), (0x136, 0x54), (0x137, 0x52), (0x138, 0x49), (0x139, 0x53)])).title =
      [0x54, 0x45, 0x54, 0x52, 0x49, 0x53] := by decide
theorem test_vh9 : (parseHeader (image [(0x148, 0x99)])).romSize = .unknownMax := by decide
/-- S8: ROM bank 0 is fixed and the window shows the active bank. -/
theorem test_s8 : let s := { banked with
      rom := [(0x0000, 0x11), (0x4000, 0xB1), (0x8000, 0xB2), (0xC000, 0xB3)], config := { banked.config with romBankCount := 4 } }
    (List.map (fun bank => (peek { s with activeRomBank := bank } 0x0000, peek { s with activeRomBank := bank } 0x4000))
      [1, 2, 3]) = [(some 0x11, some 0xB1), (some 0x11, some 0xB2), (some 0x11, some 0xB3)] := by decide
/-- R15: the bulk read. -/
theorem test_bulk_read :
    (readRange (poke 0xC001 0x5A bare) 0xC000 0xC003).toOption = some [0x00, 0x5A, 0x00] := by decide

/-! ### Witnesses: states and operands that meet the hypotheses of each obligation -/

/-- The prefix byte in the last OAM byte, its sub-opcode in the unusable range. -/
def edge (op : Byte) : State := { poke 0xFE9F op bare with pc := 0xFE9F }

/-- An opcode and its first operand byte in the last two OAM bytes, the second in the unusable range. -/
def edge2 (op : Byte) : State := { poke 0xFE9E op bare with pc := 0xFE9E }

theorem witness_DecodeInvertsEncode :
    (Instr.ldBcNn 0xFFFF).wellFormed = true ∧ (Instr.illegal 0xFD).wellFormed = true ∧ Instr.ldBcNn 0xFFFF ≠ .prefixCb ∧
      Instr.prefixCb.wellFormed = true := by decide

theorem witness_EncodeInvertsDecode :
    decode [0x21, 0x34, 0x12, 0x99] = .ok (.ldHlNn 0x1234, [0x99]) ∧ Instr.ldHlNn 0x1234 ≠ .stop ∧
    decode [0x10, 0xFF, 0x00] = .ok (.stop, [0x00]) := ⟨rfl, by decide, rfl⟩

theorem witness_IllegalOpcodesFault :
    0xD3 ∈ illegalBytes ∧ noStep (code [0xD3] bare) = none ∧ busRead (code [0xD3] bare) 0x0100 = .ok 0xD3 ∧
    decode [0xFD, 0x00] = .ok (.illegal 0xFD, [0x00]) := ⟨by decide, rfl, rfl, rfl⟩

theorem witness_StepRunsTheDecodedInstruction :
    (decode [0x21, 0x34, 0x12] = .ok (.ldHlNn 0x1234, []) ∧ Instr.ldHlNn 0x1234 ≠ .prefixCb) ∧
    ((noStep (code [0x21, 0x34, 0x12] bare)).isNone ∧
      [0x0100, 0x0101, 0x0102].map (peek (code [0x21, 0x34, 0x12] bare)) = [some 0x21, some 0x34, some 0x12] ∧
      (noStep (edge 0x10)).isNone ∧ peek (edge 0x10) (edge 0x10).pc = some 0x10 ∧
      (noStep (edge 0xCB)).isNone ∧ peek (edge 0xCB) (edge 0xCB).pc = some 0xCB ∧
      peek (edge 0xCB) ((edge 0xCB).pc + 1) = none) := ⟨⟨rfl, by decide⟩, by decide⟩

theorem witness_PrefixDispatchesOnTheSubOpcode :
    ((noStep (code [0xCB, 0x37] bare)).isNone ∧
      [0x0100, 0x0101].map (peek (code [0xCB, 0x37] bare)) = [some 0xCB, some 0x37] ∧
      (0x37 : Byte) &&& 0x07 = regCode .a ∧ (nextOf (step (code [0xCB, 0x37] bare))).isSome) ∧
    ((noStep (edge 0xCB)).isNone ∧ peek (edge 0xCB) (edge 0xCB).pc = some 0xCB ∧
      peek (edge 0xCB) ((edge 0xCB).pc + 1) = none) := by decide

/-- With every opcode that has operands, so the witness too of `operandFaults` in the statements of the instructions. -/
theorem witness_FetchFaultsInOrder_operandFaults :
    ((noStep { bare with pc := 0xFEA0 }).isNone ∧ peek bare 0xFEA0 = none) ∧
    (∀ op ∈ opcodesWithOneOperand,
      (noStep (edge op)).isNone ∧ peek (edge op) (edge op).pc = some op ∧ peek (edge op) ((edge op).pc + 1) = none) ∧
    (∀ op ∈ opcodesWithTwoOperands, (noStep (edge2 op)).isNone ∧
      [0xFE9E, 0xFE9F, 0xFEA0].map (peek (edge2 op)) = [some op, some 0x00, none]) := by decide

theorem witness_RunStateAndFaultGateTheStep :
    ({ bare with fault := some (record .illegalOpcode 0x0100 0xD3 0x0100 none) }.fault ≠ none) ∧
    (bare.fault = none ∧ { bare with run := .halted }.run = .halted) ∧
    (nextOf (step (code [0x76] bare))).isSome ∧ (leftOf (step (code [0xD3] bare))).isSome := by decide

theorem witness_InterruptPolicyIsCheckedBeforeTheFetch :
    (bare.run = .running ∧ bare.fault = none ∧ bare.config.interruptPolicy = .ignore) ∧
    (refusing.run = .running ∧ refusing.fault = none ∧ refusing.config.interruptPolicy = .refuseWhenPending) ∧
    ((0x10 : Byte) &&& Memory.get [(0x0F, 0x10)] 0x0F &&& 0x1F ≠ 0) ∧ refusing.ime = false := by decide

/-- A faulting step of each kind, of the fetch, and behind the prefix. -/
theorem witness_AFaultingStepLeavesItsRecord :
    (leftOf (step (code [0xD3] bare))).isSome ∧
    (leftOf (step { bare with pc := 0xFEFF })).isSome ∧
    (leftOf (step { code [0xCB, 0x06] bare with h := 0xFE, l := 0xA0 })).isSome ∧
    (leftOf (step (edge 0xCB))).isSome ∧
    (leftOf (step { code [0xFA, 0xFF, 0x7F] banked with activeRomBank := 31 })).isSome ∧
    (leftOf (step (code [0xFA, 0x00, 0xA8] (bankedWith 1 0x800 true)))).isSome := by decide

theorem witness_ConstructionYieldsTheInitialState :
    (0x7FFF < 0x8000) ∧ (0x8001 % 0x4000 ≠ 0) ∧
    (0x8000 ≤ (image [(0x147, 0xFF)]).length ∧ (image [(0x147, 0xFF)]).length % 0x4000 = 0 ∧
      controllerFor (Memory.get [(0x147, 0xFF)] 0x147) .refuse = none) ∧
    controllerFor (Memory.get [(0x147, 0xFF)] 0x147) .banked = some .banked ∧
    controllerFor (Memory.get [(0x147, 0x03)] 0x147) .refuse = some .banked ∧
    controllerFor (Memory.get [] 0x147) .refuse = some .noBanking := by decide

theorem witness_HeaderCodesDecodeByTheTables :
    (0x01, ControllerKind.mbc1) ∈ controllerCodes ∧ 0x04 ∉ controllerCodes.map Prod.fst ∧
    (0x54, 96 * 0x4000) ∈ romSizeCodes ∧ 0x09 ∉ romSizeCodes.map Prod.fst ∧ 0x06 ∉ ramSizeCodes.map Prod.fst ∧
    (parseHeader (image [(0x134, 0x41)])).title.length = 1 ∧
    (parseHeader (image ((List.range 15).map fun k => (0x134 + k, 0x41)))).title.length = 15 := by decide

theorem witness_ConstructedMachinesMeetInv : ∃ s, construct (image [(0x147, 0x03), (0x149, 0x05)]) Params.default = .ok s :=
  ⟨_, rfl⟩

theorem witness_StepKeepsInv : (poke 0xC000 0x5A bare).Inv where
  flagsLow := by decide
  romBank := by decide
  twoBanks := by decide
  noBanking := by decide
  rom := ⟨by decide, by decide⟩
  cram := ⟨by decide, by decide⟩
  vram := ⟨by decide, by decide⟩
  wram := ⟨by decide, by decide⟩
  oam := ⟨by decide, by decide⟩
  io := ⟨by decide, by decide⟩
  hram := ⟨by decide, by decide⟩

theorem witness_ImeIsWrittenByThreeAndReadByNone :
    (Instr.nop ≠ .di ∧ Instr.nop ≠ .ei ∧ Instr.nop ≠ .reti) ∧ (nextOf (exec .di bare)).isSome ∧
    (nextOf (exec .ei bare)).isSome ∧ (nextOf (exec .reti bare)).isSome ∧
    (leftOf (exec .reti { bare with sp := 0xFE9F })).isSome ∧ bare.config.interruptPolicy = .ignore := by decide

theorem witness_CurrentOpIsWrittenByTheFetchAndSteersNothing : (nextOf (step (code [0xCB, 0x37] bare))).isSome := by decide

theorem witness_BankingModeIsStoredAndReadByNoRule :
    banked.config.controller = .banked ∧ 0x6000 ≤ (0x6000 : Word).toNat ∧ (0x7FFF : Word).toNat ≤ 0x7FFF := by decide

theorem witness_StoresAreCanonical : Memory.wf [(0x00, 0x01), (0x1FFF, 0xFF)] ∧ Memory.wf [] := by decide

/-- A machine with a byte at both ends of every region. -/
def mapped : State :=
  { bankedWith 4 0x2000 true with
    activeRomBank := 1, activeRamBank := 3
    rom := [(0x0000, 0x01), (0x3FFF, 0x02), (0x4000, 0x03), (0x7FFF, 0x04)], vram := [(0x0000, 0x05), (0x1FFF, 0x06)]
    cram := [(0x6000, 0x07), (0x7FFF, 0x08)], wram := [(0x0000, 0x09), (0x1DFF, 0x0A), (0x1FFF, 0x0B)]
    oam := [(0x00, 0x0C), (0x9F, 0x0D)], io := [(0x00, 0x0E), (0x7F, 0x0F)], hram := [(0x00, 0x10), (0x7E, 0x11)], ie := 0x12 }

/-- Both ends of every range of the decode table. -/
theorem witness_ReadsFollowTheDecodeTable :
    ([0x0000, 0x3FFF, 0x4000, 0x7FFF, 0x8000, 0x9FFF, 0xA000, 0xBFFF, 0xC000, 0xDFFF, 0xE000, 0xFDFF, 0xFE00, 0xFE9F,
        0xFEA0, 0xFEFF, 0xFF00, 0xFF7F, 0xFF80, 0xFFFE, 0xFFFF].map fun a => (peek mapped a).map BitVec.toNat) =
      [some 0x01, some 0x02, some 0x03, some 0x04, some 0x05, some 0x06, some 0x07, some 0x08, some 0x09, some 0x0B,
        some 0x09, some 0x0A, some 0x0C, some 0x0D, none, none, some 0x0E, some 0x0F, some 0x10, some 0x11, some 0x12] ∧
    [0xA000, 0xBFFF].map (fun a => peek { mapped with ramEnabled := false } a) = [some 0xFF, some 0xFF] ∧
    [0xA7FF, 0xA800].map (fun a => peek (bankedWith 1 0x800 true) a) = [some 0x00, none] ∧
    peek { bankedWith 3 0x2000 true with activeRamBank := 3 } 0xA000 = none ∧ peek (bankedWith 0 0 true) 0xBFFF = none := by
  decide

/-- Both ends of every range of the write decode. -/
theorem witness_WritesFollowTheDecodeTable :
    (busWrite bare 0x7FFF 0x5A).toOption = some bare ∧
    (busWrite bare 0x8000 0x5A).toOption = some { bare with vram := [(0x0000, 0x5A)] } ∧
    (busWrite bare 0x9FFF 0x5A).toOption = some { bare with vram := [(0x1FFF, 0x5A)] } ∧
    (busWrite bare 0xBFFF 0x5A).toOption = some bare ∧
    (busWrite (bankedWith 1 0x800 true) 0xA800 0x5A).toOption = none ∧
    (busWrite (bankedWith 1 0x800 true) 0xA7FF 0x5A).toOption = some { bankedWith 1 0x800 true with cram := [(0x7FF, 0x5A)] } ∧
    (busWrite bare 0xDFFF 0x5A).toOption = some { bare with wram := [(0x1FFF, 0x5A)] } ∧
    (busWrite bare 0xFDFF 0x5A).toOption = some { bare with wram := [(0x1DFF, 0x5A)] } ∧
    (busWrite bare 0xFE9F 0x5A).toOption = some { bare with oam := [(0x9F, 0x5A)] } ∧
    (busWrite bare 0xFEA0 0x5A).toOption = none ∧ (busWrite bare 0xFEFF 0x5A).toOption = none ∧
    (busWrite bare 0xFF7F 0x5A).toOption = some { bare with io := [(0x7F, 0x5A)] } ∧
    (busWrite bare 0xFFFE 0x5A).toOption = some { bare with hram := [(0x7E, 0x5A)] } ∧
    (busWrite bare 0xFFFF 0x5A).toOption = some { bare with ie := 0x5A } := by decide

/-- Both ends of the three control ranges, and a window read of a selected bank and of one past the image. -/
theorem witness_ControlWritesSetTheBankState :
    (busWrite banked 0x1FFF 0x0A).toOption = some { banked with ramEnabled := true } ∧
    (busWrite banked 0x2000 0x20).toOption = some { banked with activeRomBank := 1 } ∧
    (busWrite banked 0x3FFF 0x1F).toOption = some { banked with activeRomBank := 31 } ∧
    (busWrite banked 0x4000 0xFF).toOption = some { banked with activeRamBank := 3 } ∧
    (busWrite banked 0x5FFF 0x04).toOption = some { banked with activeRamBank := 0 } ∧
    peek { mapped with activeRomBank := 1 } 0x7FFF = some 0x04 ∧ peek { mapped with activeRomBank := 2 } 0x4000 = none := by
  decide

theorem witness_AWriteIsSeenByTheNextRead :
    (busWrite bare 0x8000 0x5A).toOption.isSome ∧ 0x8000 ≤ (0x8000 : Word).toNat ∧
    ((busWrite bare 0xE000 0x5A).toOption.map fun t => peek t 0xC000) = some (some 0x5A) ∧
    ((busWrite bare 0xDDFF 0x5A).toOption.map fun t => peek t 0xFDFF) = some (some 0x5A) ∧ 0x1DFF < 0x1E00 := by decide

theorem witness_TheUnusableRangeFaults :
    0xFEA0 ≤ (0xFEA0 : Word).toNat ∧ (0xFEFF : Word).toNat ≤ 0xFEFF ∧ (noStep { bare with pc := 0xFEFF }).isNone := by decide

theorem witness_AccessesFaultExactlyWhere : 2 ≤ bare.config.romBankCount := by decide

theorem witness_BulkReadIsTheReadDecode :
    (readRange bare 0xFFFF 0x10000).toOption = some [0x00] ∧ (readRange bare 0xFE9F 0xFEA1).toOption = none := by decide

theorem witness_FlagsAreIndependentBits : Flag.c ≠ Flag.h := by decide

/-- `readsByte`: an address that reads and one that faults, at the edge between them. -/
theorem witness_LoadFromMemory :
    (peek { bare with h := 0xFE, l := 0x9F } 0xFE9F).isSome ∧ hl { bare with h := 0xFE, l := 0x9F } = 0xFE9F ∧
    (peek { bare with h := 0xFE, l := 0xA0 } 0xFEA0).isNone ∧ hl { bare with h := 0xFE, l := 0xA0 } = 0xFEA0 ∧
    bc { bare with b := 0xFE, c := 0xA0 } = 0xFEA0 ∧ de { bare with d := 0xFE, e := 0xA0 } = 0xFEA0 := by decide

/-- `writesByte`: the same for a store. -/
theorem witness_StoreToMemory :
    (busWrite { bare with h := 0xFE, l := 0x9F } 0xFE9F 0x5A).toOption.isSome ∧
    (busWrite { bare with h := 0xFE, l := 0xA0 } 0xFEA0 0x5A).toOption.isNone := by decide

theorem witness_LoadAndStepHl :
    hl { bare with h := 0xFF, l := 0xFF } = 0xFFFF ∧ (peek { bare with h := 0xFF, l := 0xFF } 0xFFFF).isSome ∧
    (busWrite { bare with h := 0xFF, l := 0xFF } 0xFFFF 0x5A).toOption.isSome ∧
    (busWrite { bare with h := 0xFE, l := 0xA0 } 0xFEA0 0x5A).toOption.isNone := by decide

/-- `writesTwo`: both writes, the first faulting, the second faulting. -/
theorem witness_SixteenBitLoads :
    ((busWrite bare 0xFFFF 0x5A).toOption.bind fun t => (busWrite t (0xFFFF + 1) 0xA5).toOption).isSome ∧
    (busWrite bare 0xFEFF 0x5A).toOption.isNone ∧
    (busWrite bare 0xFE9F 0x5A).toOption.isSome ∧
    ((busWrite bare 0xFE9F 0x5A).toOption.bind fun t => (busWrite t (0xFE9F + 1) 0xA5).toOption).isNone := by decide

/-- `pushes`: both writes, the first faulting, the second faulting. -/
theorem witness_PushPair :
    ((busWrite bare (0x0001 - 1) 0x5A).toOption.bind fun t => (busWrite t (0x0001 - 2) 0xA5).toOption).isSome ∧
    (busWrite bare (0xFEA1 - 1) 0x5A).toOption.isNone ∧ (busWrite bare (0xFF01 - 1) 0x5A).toOption.isSome ∧
    ((busWrite bare (0xFF01 - 1) 0x5A).toOption.bind fun t => (busWrite t (0xFF01 - 2) 0xA5).toOption).isNone := by decide

/-- `pops`: both reads, the first faulting, the second faulting. -/
theorem witness_PopPair :
    (peek bare 0xFFFF).isSome ∧ (peek bare (0xFFFF + 1)).isSome ∧ (peek bare 0xFEFF).isNone ∧
    (peek bare 0xFE9F).isSome ∧ (peek bare (0xFE9F + 1)).isNone := by decide

/-- The (HL) forms of AddAndAddWithCarry, SubtractAndCompare, AndXorOr, IncrementAndDecrementMemory, RotateAndShift and
TestResetAndSetBit: a byte at HL that reads, and one that faults. -/
theorem witness_the_indHl_forms :
    hl { bare with h := 0xFE, l := 0x9F } = 0xFE9F ∧ (peek { bare with h := 0xFE, l := 0x9F } 0xFE9F).isSome ∧
    hl { bare with h := 0xFE, l := 0xA0 } = 0xFEA0 ∧ (peek { bare with h := 0xFE, l := 0xA0 } 0xFEA0).isNone := by decide

theorem witness_DecimalAdjustMakesDecimalArithmetic : 99 < 100 ∧ { bare with a := 0x99 }.a = bcd 99 := by decide

theorem witness_RotateAccumulator :
    (Instr.rra, RotOp.rr) ∈ [(Instr.rlca, RotOp.rlc), (.rrca, .rrc), (.rla, .rl), (.rra, .rr)] := by decide

/-- The taken and the untaken conditional forms; the stack accesses are those of PushPair and PopPair. -/
theorem witness_Calls_Returns :
    condition { bare with f := 0x80 } .z = true ∧ condition { bare with f := 0x80 } .nz = false ∧
    condition { bare with f := 0x10 } .c = true ∧ condition bare .nc = true := by decide

/-- The two bytes below SP at the top of memory, and at the bottom of video RAM. -/
theorem witness_StackDiscipline :
    (0x8000 ≤ (bare.sp - 2).toNat ∧ (peek bare (bare.sp - 1)).isSome ∧ (peek bare (bare.sp - 2)).isSome) ∧
    place bare (bare.sp - 1) = .ok (.hram 0x7D) ∧ place bare (bare.sp - 2) = .ok (.hram 0x7C) ∧
    place { bare with sp := 0x8002 } (0x8002 - 2) = .ok (.vram 0) := ⟨by decide, rfl, rfl, rfl⟩

theorem witness_SystemInstructions :
    bare.config.interruptPolicy = .ignore ∧ refusing.ie &&& Memory.get refusing.io 0x0F &&& 0x1F = 0 ∧
    { refusing with ie := 0x10, io := [(0x0F, 0x10)] }.ie &&& Memory.get [(0x0F, 0x10)] 0x0F &&& 0x1F ≠ 0 := by decide

/-- `frame`: a step of each shape that completes. -/
theorem witness_LoadsTransfersAndSystemFrame :
    (nextOf (exec (.ldAIndNn 0xC000) bare)).isSome ∧ (nextOf (exec .popAf bare)).isSome ∧ (nextOf (exec .reti bare)).isSome ∧
    (nextOf (exec .halt bare)).isSome ∧ (nextOf (exec .stop bare)).isSome ∧ (nextOf (exec .ldSpHl bare)).isSome := by decide

theorem witness_ArithmeticFrame :
    (nextOf (exec .cpAIndHl bare)).isSome ∧ (nextOf (exec .bit7IndHl bare)).isSome ∧ (nextOf (exec .daa bare)).isSome := by decide

/-- `frameStoring`: a store to a data address and one to a control address, and two stores of which one is a control write. -/
theorem witness_StoresFrame :
    (nextOf (exec (.ldIndNnA 0x8000) bare)).isSome ∧ (nextOf (exec (.ldIndNnA 0x2000) banked)).isSome ∧
    (nextOf (exec (.ldIndNnSp 0x7FFF) banked)).isSome ∧ (nextOf (exec .pushAf { bare with sp := 0x0001 })).isSome ∧
    (nextOf (exec (.callZNn 0x3000) bare)).isSome := by decide

end Sys2Proof.Tests
end

section
/-! PROOFS. The register cells, their pairs and the flags (10_state.md R20-R26, R39): the model's bytes and pairs against the
spec's own formulas, and F bit by bit. -/

namespace Sys2Proof.Machine

open Sys2Proof.Claims

/-! ### Pairs -/

theorem joinBytes_eq_word (hi lo : Byte) : joinBytes hi lo = word hi lo := by
  rw [word, ← joinBytes_toNat, BitVec.ofNat_toNat, BitVec.setWidth_eq]

theorem hiByte_eq_high (v : Word) : hiByte v = high v := by
  rw [high, ← hiByte_toNat, BitVec.ofNat_toNat, BitVec.setWidth_eq]

theorem loByte_eq_low (v : Word) : loByte v = low v := by
  rw [low, ← loByte_toNat, BitVec.ofNat_toNat, BitVec.setWidth_eq]

theorem pair_eq_pairValue (s : State) (p : Pair) : pair s p = pairValue s p := by
  cases p with
  | bc | de | hl => exact joinBytes_eq_word _ _
  | sp => rfl

theorem stackPair_eq_stackPairValue (s : State) (q : StackPair) : stackPair s q = stackPairValue s q := by
  cases q with
  | bc | de | hl | af => exact joinBytes_eq_word _ _

theorem setPair_eq_writePair (s : State) (p : Pair) (v : Word) : setPair s p v = writePair s p v := by
  cases p with
  | bc | de | hl => simp only [setPair, setReg8, writePair, hiByte_eq_high, loByte_eq_low]
  | sp => rfl

theorem setStackPair_eq_writeStackPair (s : State) (q : StackPair) (v : Word) :
    setStackPair s q v = writeStackPair s q v := by
  cases q with
  | bc => exact setPair_eq_writePair s .bc v
  | de => exact setPair_eq_writePair s .de v
  | hl => exact setPair_eq_writePair s .hl v
  | af => simp only [setStackPair, setF, setReg8, writeStackPair, hiByte_eq_high, loByte_eq_low]

/-- Masking F's low nibble in a byte of AF masks the low nibble of the word. -/
theorem joinBytes_flag_mask (hi lo : Byte) : joinBytes hi (lo &&& 0xF0) = joinBytes hi lo &&& 0xFFF0 := by
  apply BitVec.eq_of_getLsbD_eq
  intro i hi16
  simp only [joinBytes, BitVec.getLsbD_append, BitVec.getLsbD_and]
  interval_cases i <;> simp

/-- A pair written reads back, for AF with F's low nibble cleared (10_state.md R22, R23). -/
theorem stackPair_setStackPair (s : State) (q : StackPair) (v : Word) :
    stackPair (setStackPair s q v) q = if q = .af then v &&& 0xFFF0 else v := by
  cases q with
  | bc => exact pair_setPair s .bc v
  | de => exact pair_setPair s .de v
  | hl => exact pair_setPair s .hl v
  | af =>
    calc joinBytes (hiByte v) (loByte v &&& 0xF0) = joinBytes (hiByte v) (loByte v) &&& 0xFFF0 := joinBytes_flag_mask _ _
      _ = v &&& 0xFFF0 := by rw [joinBytes_hi_lo]

/-- Settles O31: the cells are independent, and the pairs are the spec's views of them. -/
theorem pairsAreViewsOfTheCells : Obligations.PairsAreViewsOfTheCells :=
  ⟨reg8_setReg8, pair_eq_pairValue, stackPair_eq_stackPairValue,
    fun s p v => ⟨setPair_eq_writePair s p v, pair_setPair s p v⟩, setStackPair_eq_writeStackPair, stackPair_setStackPair,
    fun _ _ => rfl⟩

/-! ### Flags -/

/-- The mask of F's low nibble. -/
theorem getLsbD_lowMask (i : Nat) : (0x0F : Byte).getLsbD i = decide (i < 4) := by
  rcases Nat.lt_or_ge i 8 with hi | hi
  · interval_cases i <;> rfl
  · rw [BitVec.getLsbD_of_ge _ _ hi, decide_eq_false (by omega)]

/-- No flag is in F's low nibble. -/
theorem Flag.four_le_bit (g : Flag) : 4 ≤ g.bit := by cases g <;> decide

/-- The four flags have four places. -/
theorem Flag.bit_injective : Function.Injective Flag.bit := by
  intro g g' h
  cases g <;> cases g' <;> simp [Flag.bit] at h ⊢

/-- A flag read after a flag write: the value written, or the flag as it was. -/
theorem flagOf_putFlag (f : Byte) (g g' : Flag) (on : Bool) :
    flagOf (putFlag f g on) g' = if g' = g then on else flagOf f g' := by
  simp only [flagOf, getLsbD_putFlag, Flag.bit_injective.eq_iff]

/-- A flag write leaves F's low nibble. -/
theorem putFlag_low (f : Byte) (g : Flag) (on : Bool) : putFlag f g on &&& 0x0F = f &&& 0x0F := by
  apply BitVec.eq_of_getLsbD_eq
  intro i _
  have hg := g.four_le_bit
  rw [BitVec.getLsbD_and, BitVec.getLsbD_and, getLsbD_lowMask, getLsbD_putFlag]
  by_cases hi : i < 4
  · rw [if_neg (by omega)]
  · simp [hi]

/-- The bits of F with the four flags given. -/
theorem getLsbD_flagByte (f : Byte) (z n h c : Bool) (i : Nat) (hi : i < 8) :
    (flagByte f z n h c).getLsbD i =
      if i = 7 then z else if i = 6 then n else if i = 5 then h else if i = 4 then c else f.getLsbD i := by
  have mask : ∀ (on : Bool) (m : Byte), (if on then m else 0x00).getLsbD i = (on && m.getLsbD i) := by
    intro on m; cases on <;> simp
  simp only [flagByte, BitVec.getLsbD_or, BitVec.getLsbD_and, mask]
  interval_cases i <;> simp

theorem updateFlags_eq_flagByte (f : Byte) (z n h c : Option Bool) :
    updateFlags f ⟨z, n, h, c⟩ =
      flagByte f (z.getD (f.getLsbD 7)) (n.getD (f.getLsbD 6)) (h.getD (f.getLsbD 5)) (c.getD (f.getLsbD 4)) :=
  BitVec.eq_of_getLsbD_eq fun i hi => by rw [getLsbD_updateFlags, getLsbD_flagByte _ _ _ _ _ i hi]

theorem condHolds_eq_condition (s : State) (cc : Cond) : condHolds s cc = condition s cc := by
  cases cc <;> rfl

/-- Settles O32: the flags' places, each written alone, a flag update as the spec's byte, and the four conditions. -/
theorem flagsAreIndependentBits : Obligations.FlagsAreIndependentBits := by
  refine ⟨fun _ => ⟨rfl, rfl, rfl, rfl⟩, fun f g on => ⟨?_, putFlag_low f g on, fun g' hne => ?_⟩,
    updateFlags_eq_flagByte, condHolds_eq_condition⟩
  · rw [flagOf_putFlag, if_pos rfl]
  · rw [flagOf_putFlag, if_neg hne]

end Sys2Proof.Machine
end

section
/-! PROOFS. The fields that no instruction reads (10_state.md R29). A change of state `f` that hides one field (IME set to one
value) makes two states equal when they agree on everything else. What the shared operations read and write is compared up to
`f`, and one case analysis over the forms of the instructions carries that to every instruction, and then to a step. -/

namespace Sys2Proof.Machine

open Sys2Proof.Claims

/-- A function that takes the same value in `f s` as in `s` takes the same value in two states that `f` makes equal. -/
theorem eq_of_image_eq {α : Type} (f : State → State) (g : State → α) (hg : ∀ s, g (f s) = g s) {s t : State}
    (hst : f s = f t) : g s = g t := by
  rw [← hg s, hst, hg]

/-- Two outcomes are alike up to `f`: the same kind of outcome, with states that `f` makes equal. -/
def Alike (f : State → State) (o o' : Result) : Prop := mapOutcome f o = mapOutcome f o'

/-- What `f` hides is read by no shared operation and no bus access: two states that `f` makes equal agree on what an
instruction reads, and every update of them gives states that `f` makes equal. -/
structure Unseen (f : State → State) : Prop where
  reg : ∀ {s t}, f s = f t → ∀ r, reg8 s r = reg8 t r
  flagByte : ∀ {s t}, f s = f t → s.f = t.f
  sp : ∀ {s t}, f s = f t → s.sp = t.sp
  pc : ∀ {s t}, f s = f t → s.pc = t.pc
  config : ∀ {s t}, f s = f t → s.config = t.config
  pending : ∀ {s t}, f s = f t → pendingInterrupts s = pendingInterrupts t
  bus : ∀ {s t}, f s = f t → ∀ address, busRead s address = busRead t address
  write : ∀ {s t}, f s = f t → ∀ address v, (busWrite s address v).map f = (busWrite t address v).map f
  setReg : ∀ {s t}, f s = f t → ∀ r v, f (setReg8 s r v) = f (setReg8 t r v)
  setFlagByte : ∀ {s t}, f s = f t → ∀ v, f (setF s v) = f (setF t v)
  setFlags : ∀ {s t}, f s = f t → ∀ u, f (withFlags s u) = f (withFlags t u)
  setSp : ∀ {s t}, f s = f t → ∀ v, f (setSp s v) = f (setSp t v)
  setPc : ∀ {s t}, f s = f t → ∀ v, f (setPc s v) = f (setPc t v)
  setIme : ∀ {s t}, f s = f t → ∀ on, f (setIme s on) = f (setIme t on)
  setRun : ∀ {s t}, f s = f t → ∀ r, f (setRun s r) = f (setRun t r)
  setOp : ∀ {s t}, f s = f t → ∀ op, f (setCurrentOp s op) = f (setCurrentOp t op)
  setFault : ∀ {s t}, f s = f t → ∀ r, f { s with fault := some r } = f { t with fault := some r }
  raised : ∀ {s t}, f s = f t → ∀ sub e, Alike f (raise sub s e) (raise sub t e)

/-- The record a taken fault writes (60_exceptions.md R307). -/
def recordOf (opcode sub : Option Byte) (s : State) (e : BusFault) : FaultRecord :=
  { kind := e.kind, pc := s.pc, opcode := opcode, sub := sub, address := e.address, bankOffset := e.bankOffset }

/-- A taken fault carries the state it leaves, changed as the outcome is. -/
theorem mapOutcome_takeFault (f : State → State) (opcode sub : Option Byte) (s : State) (e : BusFault) :
    mapOutcome f (.fault (takeFault opcode sub s e)) =
      .fault (Fault.ofKind e.kind (f { s with fault := some (recordOf opcode sub s e) })) := by
  cases e with
  | mk kind address bankOffset => cases kind <;> rfl

namespace Unseen

variable {f : State → State} {s t : State}

/-! ### What is read -/

theorem pair (h : Unseen f) (hst : f s = f t) (p : Pair) : pair s p = pair t p := by
  cases p with
  | bc => exact congrArg₂ joinBytes (h.reg hst .b) (h.reg hst .c)
  | de => exact congrArg₂ joinBytes (h.reg hst .d) (h.reg hst .e)
  | hl => exact congrArg₂ joinBytes (h.reg hst .h) (h.reg hst .l)
  | sp => exact h.sp hst

theorem stackPair (h : Unseen f) (hst : f s = f t) (q : StackPair) : stackPair s q = stackPair t q := by
  cases q with
  | bc => exact h.pair hst .bc
  | de => exact h.pair hst .de
  | hl => exact h.pair hst .hl
  | af => exact congrArg₂ joinBytes (h.reg hst .a) (h.flagByte hst)

theorem hlAddress (h : Unseen f) (hst : f s = f t) : hlAddress s = hlAddress t := h.pair hst .hl

theorem condHolds (h : Unseen f) (hst : f s = f t) (cc : Cond) : condHolds s cc = condHolds t cc := by
  cases cc <;> simp only [Sys2Proof.Machine.condHolds, h.flagByte hst]

/-! ### What is written -/

theorem setPair (h : Unseen f) (hst : f s = f t) (p : Pair) (v : Word) : f (setPair s p v) = f (setPair t p v) := by
  cases p with
  | bc => exact h.setReg (h.setReg hst .b _) .c _
  | de => exact h.setReg (h.setReg hst .d _) .e _
  | hl => exact h.setReg (h.setReg hst .h _) .l _
  | sp => exact h.setSp hst v

theorem setStackPair (h : Unseen f) (hst : f s = f t) (q : StackPair) (v : Word) :
    f (setStackPair s q v) = f (setStackPair t q v) := by
  cases q with
  | bc => exact h.setPair hst .bc v
  | de => exact h.setPair hst .de v
  | hl => exact h.setPair hst .hl v
  | af => exact h.setFlagByte (h.setReg hst .a _) _

theorem advance (h : Unseen f) (hst : f s = f t) (n : Word) : f (advance s n) = f (advance t n) := by
  simp only [Sys2Proof.Machine.advance, h.pc hst]
  exact h.setPc hst _

/-! ### Outcomes -/

theorem next (hst : f s = f t) : Alike f (.next s) (.next t) := congrArg Host.Outcome.next hst

theorem finish (h : Unseen f) (hst : f s = f t) (n : Word) : Alike f (finish s n) (finish t n) :=
  next (h.advance hst n)

theorem jump (h : Unseen f) (hst : f s = f t) (target : Word) : Alike f (jump s target) (jump t target) :=
  next (h.setPc hst target)

theorem fault (h : Unseen f) (hst : f s = f t) (opcode sub : Option Byte) (e : BusFault) :
    Alike f (.fault (takeFault opcode sub s e)) (.fault (takeFault opcode sub t e)) := by
  have hr : recordOf opcode sub s e = recordOf opcode sub t e := by simp only [recordOf, h.pc hst]
  rw [Alike, mapOutcome_takeFault, mapOutcome_takeFault, hr, h.setFault hst]

theorem read (h : Unseen f) (hst : f s = f t) {sub : Option Byte} {address : Word} {rest rest' : Byte → Result}
    (hr : ∀ v, Alike f (rest v) (rest' v)) : Alike f (readThen sub s address rest) (readThen sub t address rest') := by
  cases hs : busRead s address with
  | ok v =>
    rw [readThen_ok hs, readThen_ok (h.bus hst address ▸ hs)]
    exact hr v
  | error e =>
    rw [readThen_error hs, readThen_error (h.bus hst address ▸ hs)]
    exact h.raised hst sub e

theorem store (h : Unseen f) (hst : f s = f t) {sub : Option Byte} {address : Word} {v : Byte}
    {rest rest' : State → Result} (hr : ∀ u u', f u = f u' → Alike f (rest u) (rest' u')) :
    Alike f (writeThen sub s address v rest) (writeThen sub t address v rest') := by
  have hw := h.write hst address v
  cases hs : busWrite s address v <;> cases ht : busWrite t address v <;>
    simp only [hs, ht, Except.map, Except.ok.injEq, Except.error.injEq, reduceCtorEq] at hw
  case error.error e e' =>
    rw [writeThen_error hs, writeThen_error ht, hw]
    exact h.raised hst sub e'
  case ok.ok u u' =>
    rw [writeThen_ok hs, writeThen_ok ht]
    exact hr u u' hw

theorem push (h : Unseen f) (hst : f s = f t) {v : Word} {rest rest' : State → Result}
    (hr : ∀ u u', f u = f u' → Alike f (rest u) (rest' u')) : Alike f (push16 s v rest) (push16 t v rest') := by
  simp only [push16, h.sp hst]
  exact h.store hst fun _ _ h1 => h.store h1 fun _ _ h2 => hr _ _ (h.setSp h2 _)

theorem pop (h : Unseen f) (hst : f s = f t) {rest rest' : State → Word → Result}
    (hr : ∀ u u' v, f u = f u' → Alike f (rest u v) (rest' u' v)) : Alike f (pop16 s rest) (pop16 t rest') := by
  simp only [pop16, h.sp hst]
  exact h.read hst fun _ => h.read hst fun _ => hr _ _ _ (h.setSp hst _)

theorem readOperand (h : Unseen f) (hst : f s = f t) {sub : Option Byte} {r : Target} {rest rest' : Byte → Result}
    (hr : ∀ v, Alike f (rest v) (rest' v)) : Alike f (readTarget sub s r rest) (readTarget sub t r rest') := by
  cases r with
  | reg r =>
    simp only [readTarget, h.reg hst]
    exact hr _
  | indHl =>
    simp only [readTarget, h.hlAddress hst]
    exact h.read hst hr

theorem writeOperand (h : Unseen f) (hst : f s = f t) {sub : Option Byte} {r : Target} {v : Byte}
    {rest rest' : State → Result} (hr : ∀ u u', f u = f u' → Alike f (rest u) (rest' u')) :
    Alike f (writeTarget sub s r v rest) (writeTarget sub t r v rest') := by
  cases r with
  | reg r => exact hr _ _ (h.setReg hst r v)
  | indHl =>
    simp only [writeTarget, h.hlAddress hst]
    exact h.store hst hr

/-! ### The shared operations of the families -/

theorem aluOn (h : Unseen f) (hst : f s = f t) (op : AluOp) (x : Byte) (n : Word) :
    Alike f (aluOn s op x n) (aluOn t op x n) := by
  have ha : s.a = t.a := h.reg hst .a
  simp only [Sys2Proof.Machine.aluOn, ha, h.flagByte hst]
  cases op with
  | cp => exact h.finish (h.setFlags hst _) n
  | add | adc | sub | sbc | and | xor | or => exact h.finish (h.setReg (h.setFlags hst _) .a _) n

theorem rotateA (h : Unseen f) (hst : f s = f t) (op : RotOp) : Alike f (rotateA s op) (rotateA t op) := by
  have ha : s.a = t.a := h.reg hst .a
  simp only [Sys2Proof.Machine.rotateA, ha, h.flagByte hst]
  exact h.finish (h.setFlags (h.setReg hst .a _) _) 1

theorem rotateTarget (h : Unseen f) (hst : f s = f t) (op : RotOp) (r : Target) :
    Alike f (rotateTarget s op r) (rotateTarget t op r) := by
  simp only [Sys2Proof.Machine.rotateTarget, h.flagByte hst]
  exact h.readOperand hst fun _ => h.writeOperand hst fun _ _ hu => h.finish (h.setFlags hu _) 2

theorem bitTarget (h : Unseen f) (hst : f s = f t) (b : BitVec 3) (r : Target) :
    Alike f (bitTarget s b r) (bitTarget t b r) :=
  h.readOperand hst fun _ => h.finish (h.setFlags hst _) 2

theorem resTarget (h : Unseen f) (hst : f s = f t) (b : BitVec 3) (r : Target) :
    Alike f (resTarget s b r) (resTarget t b r) := by
  unfold Sys2Proof.Machine.resTarget
  exact h.readOperand hst fun _ => h.writeOperand hst fun _ _ hu => h.finish hu 2

theorem setTarget (h : Unseen f) (hst : f s = f t) (b : BitVec 3) (r : Target) :
    Alike f (setTarget s b r) (setTarget t b r) := by
  unfold Sys2Proof.Machine.setTarget
  exact h.readOperand hst fun _ => h.writeOperand hst fun _ _ hu => h.finish hu 2

theorem runCb (h : Unseen f) (hst : f s = f t) (sub : Byte) : Alike f (runCb s sub) (runCb t sub) := by
  unfold Sys2Proof.Machine.runCb pick4
  dsimp only
  split
  · exact h.rotateTarget hst _ _
  · exact h.bitTarget hst _ _
  · exact h.resTarget hst _ _
  · exact h.setTarget hst _ _

theorem call (h : Unseen f) (hst : f s = f t) (target length : Word) :
    Alike f (call s target length) (call t target length) := by
  simp only [Sys2Proof.Machine.call, h.pc hst]
  exact h.push hst fun _ _ hu => h.jump hu target

theorem ret (h : Unseen f) (hst : f s = f t) : Alike f (ret s) (ret t) := h.pop hst fun _ _ _ hu => h.jump hu _

theorem jumpRelative (h : Unseen f) (hst : f s = f t) (e : Byte) : Alike f (jumpRelative s e) (jumpRelative t e) := by
  simp only [Sys2Proof.Machine.jumpRelative, relativeTarget, h.pc hst]
  exact h.jump hst _

theorem halt (h : Unseen f) (hst : f s = f t) : Alike f (halt s) (halt t) := by
  simp only [Sys2Proof.Machine.halt, h.config hst, h.pending hst]
  split
  · rfl
  · exact next (h.setRun (h.advance hst 1) .halted)

theorem illegal (h : Unseen f) (hst : f s = f t) (op : Byte) : Alike f (illegal s op) (illegal t op) := by
  simp only [Sys2Proof.Machine.illegal, illegalOpcodeFault, h.pc hst]
  exact h.fault hst _ _ _

/-- A rule that is taken or not by a condition. -/
theorem ifHolds (h : Unseen f) (hst : f s = f t) (cc : Cond) {o o' p p' : Result} (ho : Alike f o o')
    (hp : Alike f p p') : Alike f (if Sys2Proof.Machine.condHolds s cc then o else p)
      (if Sys2Proof.Machine.condHolds t cc then o' else p') := by
  rw [h.condHolds hst]
  split
  · exact ho
  · exact hp

end Unseen

/-- No instruction reads what `f` hides: two states that `f` makes equal have outcomes that it makes equal. -/
theorem exec_alike {f : State → State} (h : Unseen f) {s t : State} (hst : f s = f t) (i : Instr) :
    Alike f (exec i s) (exec i t) := by
  have ha : s.a = t.a := h.reg hst .a
  have hc : s.c = t.c := h.reg hst .c
  have hm := exec_meaning s i
  generalize exec i s = o at hm
  cases hm with
  | ldRegReg | ldRegImm =>
    simp only [exec_ldRegReg, exec_ldRegImm, ldRegReg, ldRegImm, h.reg hst]
    exact h.finish (h.setReg hst _ _) _
  | ldRegInd | ldAIndBc | ldAIndDe | ldAIndNn | ldhAIndN | ldAIndC =>
    simp only [exec_ldRegInd, exec_ldAIndBc, exec_ldAIndDe, exec_ldAIndNn, exec_ldhAIndN, exec_ldAIndC, ldRegInd,
      loadAThenFinish, h.hlAddress hst, h.pair hst, hc]
    exact h.read hst fun _ => h.finish (h.setReg hst _ _) _
  | ldIndReg | ldIndHlN | ldIndBcA | ldIndDeA | ldIndNnA | ldhIndNA | ldIndCA =>
    simp only [exec_ldIndReg, exec_ldIndHlN, exec_ldIndBcA, exec_ldIndDeA, exec_ldIndNnA, exec_ldhIndNA, exec_ldIndCA,
      ldIndReg, storeThenFinish, h.hlAddress hst, h.pair hst, h.reg hst, ha, hc]
    exact h.store hst fun _ _ hu => h.finish hu _
  | ldIndHlIncA | ldIndHlDecA =>
    simp only [exec_ldIndHlIncA, exec_ldIndHlDecA, storeStep, h.hlAddress hst, ha]
    exact h.store hst fun _ _ hu => h.finish (h.setPair hu .hl _) _
  | ldAIndHlInc | ldAIndHlDec =>
    simp only [exec_ldAIndHlInc, exec_ldAIndHlDec, loadStep, h.hlAddress hst]
    exact h.read hst fun _ => h.finish (h.setPair (h.setReg hst .a _) .hl _) _
  | ldPairImm p nn =>
    rw [exec_ldPairImm]
    exact h.finish (h.setPair hst p nn) 3
  | ldIndNnSp nn =>
    simp only [exec_ldIndNnSp, storeSp, h.sp hst]
    exact h.store hst fun _ _ h1 => h.store h1 fun _ _ h2 => h.finish h2 3
  | ldSpHl =>
    simp only [exec_ldSpHl, ldSpHl, h.hlAddress hst]
    exact h.finish (h.setSp hst _) 1
  | ldHlSpE e =>
    simp only [exec_ldHlSpE, ldHlSpE, h.sp hst]
    exact h.finish (h.setFlags (h.setPair hst .hl _) _) 2
  | pushPair q =>
    simp only [exec_pushPair, pushPair, h.stackPair hst]
    exact h.push hst fun _ _ hu => h.finish hu 1
  | popPair q =>
    rw [exec_popPair]
    exact h.pop hst fun _ _ _ hu => h.finish (h.setStackPair hu q _) 1
  | aluReg op src =>
    simp only [exec_aluReg, aluReg, h.reg hst]
    exact h.aluOn hst op _ 1
  | aluInd op =>
    simp only [exec_aluInd, aluInd, h.hlAddress hst]
    exact h.read hst fun x => h.aluOn hst op x 1
  | aluImm op n =>
    rw [exec_aluImm]
    exact h.aluOn hst op n 2
  | incReg | decReg =>
    simp only [exec_incReg, exec_decReg, incReg, decReg, h.reg hst]
    exact h.finish (h.setFlags (h.setReg hst _ _) _) 1
  | incIndHl | decIndHl =>
    simp only [exec_incIndHl, exec_decIndHl, incInd, decInd, h.hlAddress hst]
    exact h.read hst fun _ => h.store hst fun _ _ hu => h.finish (h.setFlags hu _) 1
  | daa | cpl =>
    simp only [exec_daa, exec_cpl, decimalAdjust, complementA, ha, h.flagByte hst]
    exact h.finish (h.setFlags (h.setReg hst .a _) _) 1
  | scf | ccf =>
    simp only [exec_scf, exec_ccf, setCarry, complementCarry, h.flagByte hst]
    exact h.finish (h.setFlags hst _) 1
  | addHlPair p =>
    simp only [exec_addHlPair, addHlPair, h.hlAddress hst, h.pair hst]
    exact h.finish (h.setFlags (h.setPair hst .hl _) _) 1
  | incPair p | decPair p =>
    simp only [exec_incPair, exec_decPair, stepPair, h.pair hst]
    exact h.finish (h.setPair hst p _) 1
  | addSpE e =>
    simp only [exec_addSpE, addSpE, h.sp hst]
    exact h.finish (h.setFlags (h.setSp hst _) _) 2
  | rlca => exact h.rotateA hst .rlc
  | rrca => exact h.rotateA hst .rrc
  | rla => exact h.rotateA hst .rl
  | rra => exact h.rotateA hst .rr
  | cbRot op r => exact exec_cbRot t op r ▸ h.rotateTarget hst op r
  | cbBit b r => exact exec_cbBit t b r ▸ h.bitTarget hst b r
  | cbRes b r => exact exec_cbRes t b r ▸ h.resTarget hst b r
  | cbSet b r => exact exec_cbSet t b r ▸ h.setTarget hst b r
  | jpNn nn => exact h.jump hst nn
  | jpCond cc nn => exact exec_jpCond t cc nn ▸ h.ifHolds hst cc (h.jump hst nn) (h.finish hst 3)
  | jpHl =>
    rw [exec_jpHl, h.hlAddress hst]
    exact h.jump hst _
  | jrE e => exact h.jumpRelative hst e
  | jrCond cc e => exact exec_jrCond t cc e ▸ h.ifHolds hst cc (h.jumpRelative hst e) (h.finish hst 2)
  | callNn nn => exact h.call hst nn 3
  | callCond cc nn => exact exec_callCond t cc nn ▸ h.ifHolds hst cc (h.call hst nn 3) (h.finish hst 3)
  | ret => exact h.ret hst
  | retCond cc => exact exec_retCond t cc ▸ h.ifHolds hst cc (h.ret hst) (h.finish hst 1)
  | reti => exact h.pop hst fun _ _ v hu => h.jump (h.setIme hu true) v
  | rst k => exact exec_rst t k ▸ h.call hst _ 1
  | nop => exact h.finish hst 1
  | stop => exact Unseen.next (h.setRun (h.advance hst 2) .stopped)
  | halt => exact h.halt hst
  | di => exact h.finish (h.setIme hst false) 1
  | ei => exact h.finish (h.setIme hst true) 1
  | prefixCb =>
    simp only [exec_prefixCb, dispatchPrefix, h.pc hst]
    exact h.read hst fun sub => h.runCb hst sub
  | illegal op => exact h.illegal hst op

/-- The operand bytes of an opcode do not depend on what `f` hides. -/
theorem fetchOperands_congr {f : State → State} (h : Unseen f) {s t : State} (hst : f s = f t) (op : Byte) :
    fetchOperands s op = fetchOperands t op := by
  simp only [fetchOperands, h.pc hst, h.bus hst]

/-- A step reads what `f` hides nowhere but in the checks before its fetch. -/
theorem step_alike {f : State → State} (h : Unseen f) {s t : State} (hst : f s = f t) (hn : noStep s = noStep t) :
    Alike f (step s) (step t) := by
  cases hs : noStep s with
  | some o =>
    have ht : noStep t = some o := hn ▸ hs
    simp only [Alike, step, hs, ht]
  | none =>
    have ht : noStep t = none := hn ▸ hs
    have hread : busRead s s.pc = busRead t t.pc := by rw [h.pc hst, h.bus hst]
    cases hop : busRead t t.pc with
    | error e =>
      simp only [step, fetch, hs, ht, hread, hop]
      exact h.fault hst none none e
    | ok op =>
      have hfetched := h.setOp hst op
      rw [step_of_opcode hs (hread.trans hop), step_of_opcode ht hop, fetchOperands_congr h hfetched]
      cases fetchOperands (setCurrentOp t op) op with
      | ok i => exact exec_alike h hfetched i
      | error e => exact h.fault hfetched (some op) none e

/-! ### IME -/

/-- The state with IME hidden. -/
def withoutIme (s : State) : State := setIme s false

theorem controlWrite_setIme (s : State) (on : Bool) (address : Word) (v : Byte) :
    controlWrite (setIme s on) address v = setIme (controlWrite s address v) on := by
  simp only [controlWrite, setIme_config]
  split
  · rfl
  · split_ifs <;> rfl

theorem writePlace_setIme (s : State) (on : Bool) (p : Place) (v : Byte) :
    writePlace (setIme s on) p v = setIme (writePlace s p v) on := by
  cases p <;> rfl

/-- A bus write does the same whatever IME is, and leaves it. -/
theorem busWrite_setIme (s : State) (on : Bool) (address : Word) (v : Byte) :
    busWrite (setIme s on) address v = (busWrite s address v).map (setIme · on) := by
  simp only [busWrite, place_setIme, controlWrite_setIme, writePlace_setIme]
  split
  · rfl
  · cases place s address <;> rfl

/-- No shared operation reads IME. -/
theorem unseen_withoutIme : Unseen withoutIme where
  reg hst r := eq_of_image_eq withoutIme (reg8 · r) (reg8_setIme · false r) hst
  flagByte := eq_of_image_eq withoutIme State.f fun _ => rfl
  sp := eq_of_image_eq withoutIme State.sp fun _ => rfl
  pc := eq_of_image_eq withoutIme State.pc fun _ => rfl
  config := eq_of_image_eq withoutIme State.config fun _ => rfl
  pending := eq_of_image_eq withoutIme pendingInterrupts fun _ => rfl
  bus hst address := eq_of_image_eq withoutIme (busRead · address) (busRead_setIme · false address) hst
  write hst address v := eq_of_image_eq withoutIme (fun s => (busWrite s address v).map withoutIme) (fun s => by
    rw [withoutIme, busWrite_setIme]
    cases busWrite s address v <;> rfl) hst
  setReg hst r v := eq_of_image_eq withoutIme (fun s => withoutIme (setReg8 s r v)) (fun _ => by cases r <;> rfl) hst
  setFlagByte hst v := eq_of_image_eq withoutIme (fun s => withoutIme (setF s v)) (fun _ => rfl) hst
  setFlags hst u := eq_of_image_eq withoutIme (fun s => withoutIme (withFlags s u)) (fun _ => rfl) hst
  setSp hst v := eq_of_image_eq withoutIme (fun s => withoutIme (setSp s v)) (fun _ => rfl) hst
  setPc hst v := eq_of_image_eq withoutIme (fun s => withoutIme (setPc s v)) (fun _ => rfl) hst
  setIme hst on := eq_of_image_eq withoutIme (fun s => withoutIme (setIme s on)) (fun _ => rfl) hst
  setRun hst r := eq_of_image_eq withoutIme (fun s => withoutIme (setRun s r)) (fun _ => rfl) hst
  setOp hst op := eq_of_image_eq withoutIme (fun s => withoutIme (setCurrentOp s op)) (fun _ => rfl) hst
  setFault hst r := eq_of_image_eq withoutIme (fun s => withoutIme { s with fault := some r }) (fun _ => rfl) hst
  raised hst sub e := eq_of_image_eq withoutIme (fun s => mapOutcome withoutIme (raise sub s e)) (fun _ => by
    simp only [raise, mapOutcome_takeFault]; rfl) hst

/-- Every update but a write of IME keeps it. -/
theorem kept_ime (on : Bool) : Kept (fun s => s.ime = on) (fun s => s.ime = on) where
  reg hs r v := (setReg8_ime _ r v).trans hs
  flagReg hs _ := hs
  flags hs _ := hs
  sp hs _ := hs
  pc hs _ := hs
  fault hs _ := hs
  write hs hw := by
    obtain ⟨-, -, -, -, hime, -⟩ := busWrite_keeps hw
    exact hime.trans hs

/-- RETI sets IME where its pop completes, and leaves it where a read of the pop faults (45_control_flow.md R249). -/
theorem exec_reti_ime (s : State) : endsIn (fun t => t.ime = true) (fun t => t.ime = s.ime) (exec .reti s) :=
  endsIn_readThen (fun _ => rfl) fun _ _ => endsIn_readThen (fun _ => rfl) fun _ _ => rfl

/-- Under the policy `ignore` the checks before a fetch do not read IME (60_exceptions.md R311). -/
theorem noStep_setIme {s : State} (on : Bool) (hp : s.config.interruptPolicy = .ignore) :
    noStep (setIme s on) = noStep s := by
  have hi : ∀ b, interruptWouldBeTaken (setIme s b) = false := fun b => by simp [interruptWouldBeTaken, hp]
  have hs : interruptWouldBeTaken s = false := hi s.ime
  simp only [noStep, setIme_fault, setIme_run, hi, hs]

/-- Settles O20: what DI, EI and RETI write, that every other instruction keeps IME (`exec_keeps`), and that IME is unseen by
every instruction and by the checks before the fetch under `ignore`. -/
theorem imeIsWrittenByThreeAndReadByNone : Obligations.ImeIsWrittenByThreeAndReadByNone := by
  unfold Obligations.ImeIsWrittenByThreeAndReadByNone
  refine ⟨fun i s hdi hei hreti => ?_, fun s t h => ?_, fun s t h => ?_, fun s t h => ?_, fun s left fault h hleft => ?_,
    fun i s on => ?_, fun s on hp => ?_⟩
  · exact exec_keeps (kept_ime s.ime) (fun hi => by simp [hdi, hei, hreti] at hi) (fun _ _ hs _ => hs) rfl
  · rw [exec_di, writeIme, finish_next] at h
    rw [h, advance_ime, setIme_ime]
  · rw [exec_ei, writeIme, finish_next] at h
    rw [h, advance_ime, setIme_ime]
  · have hends := exec_reti_ime s
    rwa [h] at hends
  · have hends := exec_reti_ime s
    rw [h] at hends
    exact hends left hleft
  · exact exec_alike unseen_withoutIme (s := setIme s on) (t := s) rfl i
  · exact step_alike unseen_withoutIme (s := setIme s on) (t := s) rfl (noStep_setIme on hp)

end Sys2Proof.Machine
end

section
/-! PROOFS. The banking mode (20_memory.md R67): the write that stores it, and that no operation of `Unseen` reads it. -/

namespace Sys2Proof.Machine

open Sys2Proof.Claims

/-- The state with the banking mode hidden. -/
def withoutMode (s : State) : State := { s with bankingMode := 0 }

/-- Under Banked, 0x6000-0x7FFF stores the low two bits of the byte written (20_memory.md R67). -/
theorem controlWrite_mode {s : State} (hc : s.config.controller = .banked) {address : Word}
    (ha : 0x6000 ≤ address.toNat) (v : Byte) :
    controlWrite s address v = { s with bankingMode := v.extractLsb' 0 2 } := by
  have h1 : ¬ address.toNat < 0x2000 := by omega
  have h2 : ¬ address.toNat < 0x4000 := by omega
  have h3 : ¬ address.toNat < 0x6000 := by omega
  simp only [controlWrite, hc, h1, h2, h3, if_false]

/-- `v & 3` as a number. -/
theorem extractLsb'_zero_two_eq_ofNat (v : Byte) : v.extractLsb' 0 2 = BitVec.ofNat 2 (v.toNat % 4) := by
  apply BitVec.eq_of_toNat_eq
  simp only [BitVec.extractLsb'_toNat, BitVec.toNat_ofNat, Nat.shiftRight_zero, Nat.reducePow, Nat.mod_mod]

/-- A control write stores the same, the mode aside, whatever the mode was. -/
theorem withoutMode_controlWrite (s : State) (address : Word) (v : Byte) :
    withoutMode (controlWrite (withoutMode s) address v) = withoutMode (controlWrite s address v) := by
  have hc : (withoutMode s).config = s.config := rfl
  simp only [controlWrite, hc]
  split
  · rfl
  · split_ifs <;> rfl

/-- The decode of an address does not read the mode. -/
theorem place_withoutMode (s : State) (address : Word) : place (withoutMode s) address = place s address := rfl

/-- A read does not read the mode. -/
theorem busRead_withoutMode (s : State) (address : Word) : busRead (withoutMode s) address = busRead s address := by
  rw [busRead, busRead, place_withoutMode]
  cases place s address with
  | ok p => exact congrArg Except.ok (by cases p <;> rfl)
  | error e => rfl

theorem withoutMode_writePlace (s : State) (p : Place) (v : Byte) :
    withoutMode (writePlace (withoutMode s) p v) = withoutMode (writePlace s p v) := by
  cases p <;> rfl

/-- A bus write does the same, the mode aside, whatever the mode was. -/
theorem withoutMode_busWrite (s : State) (address : Word) (v : Byte) :
    (busWrite (withoutMode s) address v).map withoutMode = (busWrite s address v).map withoutMode := by
  rw [busWrite, busWrite, place_withoutMode]
  split
  · exact congrArg Except.ok (withoutMode_controlWrite s address v)
  · cases place s address with
    | ok p => exact congrArg Except.ok (withoutMode_writePlace s p v)
    | error e => rfl

/-- No shared operation reads the mode. -/
theorem unseen_withoutMode : Unseen withoutMode where
  reg hst r := eq_of_image_eq withoutMode (reg8 · r) (fun _ => by cases r <;> rfl) hst
  flagByte := eq_of_image_eq withoutMode State.f fun _ => rfl
  sp := eq_of_image_eq withoutMode State.sp fun _ => rfl
  pc := eq_of_image_eq withoutMode State.pc fun _ => rfl
  config := eq_of_image_eq withoutMode State.config fun _ => rfl
  pending := eq_of_image_eq withoutMode pendingInterrupts fun _ => rfl
  bus hst address := eq_of_image_eq withoutMode (busRead · address) (busRead_withoutMode · address) hst
  write hst address v :=
    eq_of_image_eq withoutMode (fun s => (busWrite s address v).map withoutMode) (withoutMode_busWrite · address v) hst
  setReg hst r v := eq_of_image_eq withoutMode (fun s => withoutMode (setReg8 s r v)) (fun _ => by cases r <;> rfl) hst
  setFlagByte hst v := eq_of_image_eq withoutMode (fun s => withoutMode (setF s v)) (fun _ => rfl) hst
  setFlags hst u := eq_of_image_eq withoutMode (fun s => withoutMode (withFlags s u)) (fun _ => rfl) hst
  setSp hst v := eq_of_image_eq withoutMode (fun s => withoutMode (setSp s v)) (fun _ => rfl) hst
  setPc hst v := eq_of_image_eq withoutMode (fun s => withoutMode (setPc s v)) (fun _ => rfl) hst
  setIme hst on := eq_of_image_eq withoutMode (fun s => withoutMode (setIme s on)) (fun _ => rfl) hst
  setRun hst r := eq_of_image_eq withoutMode (fun s => withoutMode (setRun s r)) (fun _ => rfl) hst
  setOp hst op := eq_of_image_eq withoutMode (fun s => withoutMode (setCurrentOp s op)) (fun _ => rfl) hst
  setFault hst r := eq_of_image_eq withoutMode (fun s => withoutMode { s with fault := some r }) (fun _ => rfl) hst
  raised hst sub e := eq_of_image_eq withoutMode (fun s => mapOutcome withoutMode (raise sub s e)) (fun _ => by
    simp only [raise, mapOutcome_takeFault]; rfl) hst

/-- Settles O22: the control write by its decode (`controlWrite_mode`), and two states that differ in the mode alone by
`step_alike`, since the checks before the fetch do not read the mode either. -/
theorem bankingModeIsStoredAndReadByNoRule : Obligations.BankingModeIsStoredAndReadByNoRule := by
  unfold Obligations.BankingModeIsStoredAndReadByNoRule
  refine ⟨fun s address v hc hlow hhigh => ?_, fun s mode => ?_⟩
  · have hcontrol : address.toNat < 0x8000 := by omega
    rw [busWrite, if_pos hcontrol, controlWrite_mode hc hlow, extractLsb'_zero_two_eq_ofNat]
  · exact step_alike unseen_withoutMode (s := { s with bankingMode := mode }) (t := s) rfl rfl

end Sys2Proof.Machine
end

section
/-! PROOFS. The length of an instruction (30_encoding.md R113): what a row of the base table consumes, and that the length
table gives every opcode byte the length of its row. -/

namespace Sys2Proof

open Sys2Proof.Claims

/-- The bytes a row of the base table consumes when its operands are there, the opcode byte and a sub-opcode counted. -/
def BaseRow.length : BaseRow → Nat
  | .plain _ => 1
  | .imm8 _ | .stop | .cb => 2
  | .imm16 _ => 3

/-- With two bytes after the opcode byte no operand is missing: its row makes an instruction and leaves what it did not
consume. -/
theorem decode_leaves_drop_length (op b1 b2 : Byte) (rest : List Byte) :
    ∃ i, decode (op :: b1 :: b2 :: rest) = .ok (i, (op :: b1 :: b2 :: rest).drop (baseRow op).length) := by
  simp only [decode]
  cases baseRow op with
  | plain i => exact ⟨i, rfl⟩
  | imm8 mk => exact ⟨mk b1, rfl⟩
  | imm16 mk => exact ⟨mk (joinBytes b2 b1), rfl⟩
  | stop => exact ⟨.stop, rfl⟩
  | cb => exact ⟨decodeCb b1, rfl⟩

/-- The decoder's bit fields (R107-R112) and the length table (R113) agree on every opcode byte. -/
theorem baseRow_length : ∀ op, (baseRow op).length = lengthOf op :=
  byte_cases fun n hn => by interval_cases n <;> rfl

/-- Settles O4: the rest begins after the length of the opcode byte's row, which is the length the table gives that byte. -/
theorem lengthIsFixedByTheFirstByte : Obligations.LengthIsFixedByTheFirstByte := by
  intro op b1 b2 rest
  rw [← baseRow_length op]
  exact decode_leaves_drop_length op b1 b2 rest

end Sys2Proof
end

section
/-! PROOFS. The shapes of the statements about instructions: a row of the base table gives the encoding of its instructions
and the faults of their operand fetches, and the sequencing operations give `readsByte`, `writesByte`, `writesTwo`, `pushes`
and `pops`, each once for every instruction that runs them. -/

namespace Sys2Proof.Machine

open Sys2Proof.Claims

/-! ### What a row of the base table says -/

theorem encodedAs_of_plain {op : Byte} {i : Instr} (hrow : baseRow op = .plain i) : encodedAs [op] i := by
  intro rest
  simp only [List.cons_append, List.nil_append, decode, hrow]

theorem encodedAs_of_imm8 {op : Byte} {mk : Byte → Instr} (hrow : baseRow op = .imm8 mk) (n : Byte) :
    encodedAs [op, n] (mk n) := by
  intro rest
  simp only [List.cons_append, List.nil_append, decode, hrow]

theorem encodedAs_of_imm16 {op : Byte} {mk : Word → Instr} (hrow : baseRow op = .imm16 mk) (nn : Word) :
    encodedAs [op, low nn, high nn] (mk nn) := by
  intro rest
  simp only [List.cons_append, List.nil_append, decode, hrow, ← loByte_eq_low, ← hiByte_eq_high, joinBytes_hi_lo]

/-- A fault of an operand fetch ends the step, with the opcode in `current_op` and in the record. -/
theorem step_of_operand_fault {s : State} {op : Byte} {e : BusFault} (hn : noStep s = none)
    (hop : busRead s s.pc = .ok op) (hf : fetchOperands (setCurrentOp s op) op = .error e) :
    step s = .fault (takeFault (some op) none (setCurrentOp s op) e) := by
  rw [step_of_opcode hn hop, hf]

theorem operandFaults_of_imm8 {op : Byte} {mk : Byte → Instr} (hrow : baseRow op = .imm8 mk) : operandFaults op 1 := by
  refine fun s e hn hop => ⟨fun _ he => step_of_operand_fault hn hop ?_, fun htwo => absurd htwo (by decide)⟩
  simp only [fetchOperands, hrow, setCurrentOp_pc, busRead_setCurrentOp, he]

theorem operandFaults_of_imm16 {op : Byte} {mk : Word → Instr} (hrow : baseRow op = .imm16 mk) : operandFaults op 2 := by
  refine fun s e hn hop => ⟨fun _ he => step_of_operand_fault hn hop ?_,
    fun _ v hv he => step_of_operand_fault hn hop ?_⟩
  · simp only [fetchOperands, hrow, setCurrentOp_pc, busRead_setCurrentOp, he]
  · simp only [fetchOperands, hrow, setCurrentOp_pc, busRead_setCurrentOp, hv, he]

/-! ### Addresses -/

theorem hlAddress_eq_hl (s : State) : hlAddress s = hl s := pair_eq_pairValue s .hl

theorem highPage_eq_word (n : Byte) : highPage n = word 0xFF n := joinBytes_eq_word 0xFF n

theorem ff00_le_word_ff (n : Byte) : 0xFF00 ≤ (word 0xFF n).toNat := by
  rw [← joinBytes_eq_word, joinBytes_toNat]
  exact Nat.le_add_right _ _

/-- From 0xFF00 on, every address leads to a byte: the I/O block, high RAM or IE (20_memory.md R60-R62). -/
theorem place_ok_of_ff00_le (s : State) {address : Word} (h : 0xFF00 ≤ address.toNat) :
    ∃ p, place s address = .ok p := by
  rw [place]
  iterate 8 rw [if_neg (by omega)]
  split_ifs <;> exact ⟨_, rfl⟩

theorem busRead_highPage_ok (s : State) (n : Byte) : ∃ v, busRead s (word 0xFF n) = .ok v := by
  obtain ⟨p, hp⟩ := place_ok_of_ff00_le s (ff00_le_word_ff n)
  exact ⟨readPlace s p, by simp only [busRead, hp]⟩

theorem busWrite_highPage_ok (s : State) (n v : Byte) : ∃ t, busWrite s (word 0xFF n) v = .ok t := by
  have haddress := ff00_le_word_ff n
  obtain ⟨p, hp⟩ := place_ok_of_ff00_le s haddress
  have hdata : ¬ (word 0xFF n).toNat < 0x8000 := by omega
  exact ⟨writePlace s p v, by simp only [busWrite, if_neg hdata, hp]⟩

/-! ### Sequencing -/

/-- The end of a rule whose updates left PC: the step has completed with PC advanced from where it was. -/
theorem finish_of_pc_eq {s t : State} (h : t.pc = s.pc) (n : Word) : finish t n = .next { t with pc := s.pc + n } := by
  rw [finish, advance, h]
  rfl

theorem busWrite_pc {s t : State} {address : Word} {v : Byte} (h : busWrite s address v = .ok t) : t.pc = s.pc := by
  obtain ⟨-, -, -, hpc, -⟩ := busWrite_keeps h
  exact hpc

/-- A rule that is one bus read and its effect. -/
theorem readsByte_of_readThen {i : Instr} {address : State → Word} {effect : State → Byte → State}
    {rest : State → Byte → Result} (hexec : ∀ s, exec i s = readThen none s (address s) (rest s))
    (hrest : ∀ s v, rest s v = .next (effect s v)) : readsByte i address effect := by
  refine fun s => ⟨fun v hv => ?_, fun e he => ?_⟩
  · rw [hexec, readThen_ok hv, hrest]
  · rw [hexec, readThen_error he]
    rfl

/-- A rule that is one bus write and what follows, which may use that the write left PC. -/
theorem writesByte_of_writeThen {i : Instr} {address : State → Word} {value : State → Byte}
    {after : State → State → State} {rest : State → State → Result}
    (hexec : ∀ s, exec i s = writeThen none s (address s) (value s) (rest s))
    (hrest : ∀ s t, t.pc = s.pc → rest s t = .next (after s t)) : writesByte i address value after := by
  refine fun s => ⟨fun t ht => ?_, fun e he => ?_⟩
  · rw [hexec, writeThen_ok ht, hrest s t (busWrite_pc ht)]
  · rw [hexec, writeThen_error he]
    rfl

/-- A rule that is two bus writes and what follows. -/
theorem writesTwo_of_writeThen {i : Instr} {first second : State → Word} {v1 v2 : State → Byte}
    {after : State → State → State} {rest : State → State → Result}
    (hexec : ∀ s, exec i s =
      writeThen none s (first s) (v1 s) fun t => writeThen none t (second s) (v2 s) (rest s))
    (hrest : ∀ s u, u.pc = s.pc → rest s u = .next (after s u)) : writesTwo i first v1 second v2 after := by
  refine fun s => ⟨fun t u ht hu => ?_, fun e he => ?_, fun t e ht he => ?_⟩
  · rw [hexec, writeThen_ok ht, writeThen_ok hu, hrest s u ((busWrite_pc hu).trans (busWrite_pc ht))]
  · rw [hexec, writeThen_error he]
    rfl
  · rw [hexec, writeThen_ok ht, writeThen_error he]
    rfl

/-- A rule that is a push and what follows (20_memory.md R73). -/
theorem pushes_of_push16 {i : Instr} {value : State → Word} {after : State → State → State}
    {rest : State → State → Result} (hexec : ∀ s, exec i s = push16 s (value s) (rest s))
    (hrest : ∀ s u, u.pc = s.pc → rest s u = .next (after s u)) : pushes i value after := by
  refine writesTwo_of_writeThen (rest := fun s u => rest s (setSp u (s.sp - 2))) (fun s => ?_)
    fun s u hu => hrest s (setSp u (s.sp - 2)) hu
  rw [hexec, push16, hiByte_eq_high, loByte_eq_low]

/-- A rule that is a pop and what follows (20_memory.md R73). -/
theorem pops_of_pop16 {i : Instr} {after : State → Word → State} {rest : State → Word → Result}
    (hexec : ∀ s, exec i s = pop16 s rest) (hrest : ∀ s v, rest s v = .next (after s v)) : pops i after := by
  refine fun s => ⟨fun lo hi hlo hhi => ?_, fun e he => ?_, fun lo e hlo he => ?_⟩
  · rw [hexec, pop16, readThen_ok hlo, readThen_ok hhi, hrest, joinBytes_eq_word]
    rfl
  · rw [hexec, pop16, readThen_error he]
    rfl
  · rw [hexec, pop16, readThen_ok hlo, readThen_error he]
    rfl

end Sys2Proof.Machine
end

section
/-! PROOFS. Loads, stores and stack transfers (40_loads.md R130-R155): the rows of the base table that hold them, the shape of
each shared operation of the family, and the statements. -/

namespace Sys2Proof.Machine

open Sys2Proof.Claims

/-! ### Rows of the base table (30_encoding.md R102-R104, R112) -/

theorem baseRow_ldRegReg (dst src : Reg8) :
    baseRow (0x40 + 8 * regCode dst + regCode src) = .plain (.ldRegReg dst src) := by
  cases dst <;> cases src <;> rfl

theorem baseRow_ldRegImm (dst : Reg8) : baseRow (0x06 + 8 * regCode dst) = .imm8 (.ldRegImm dst) := by
  cases dst <;> rfl

theorem baseRow_ldRegInd (dst : Reg8) : baseRow (0x46 + 8 * regCode dst) = .plain (.ldRegInd dst) := by
  cases dst <;> rfl

theorem baseRow_ldIndReg (src : Reg8) : baseRow (0x70 + regCode src) = .plain (.ldIndReg src) := by
  cases src <;> rfl

theorem baseRow_ldPairImm (p : Pair) : baseRow (0x01 + pairCode p) = .imm16 (.ldPairImm p) := by
  cases p <;> rfl

theorem baseRow_pushPair (q : StackPair) : baseRow (0xC5 + stackPairCode q) = .plain (.pushPair q) := by
  cases q <;> rfl

theorem baseRow_popPair (q : StackPair) : baseRow (0xC1 + stackPairCode q) = .plain (.popPair q) := by
  cases q <;> rfl

/-! ### The shared operations of the family -/

/-- A load of A as the whole effect. -/
theorem readsByte_of_loadA {i : Instr} {address : State → Word} {n : Word}
    (hexec : ∀ s, exec i s = loadAThenFinish s (address s) n) :
    readsByte i address fun s v => { s with a := v, pc := s.pc + n } :=
  readsByte_of_readThen hexec fun _ _ => rfl

/-- A store of one byte as the whole effect. -/
theorem writesByte_of_store {i : Instr} {address : State → Word} {value : State → Byte} {n : Word}
    (hexec : ∀ s, exec i s = storeThenFinish s (address s) (value s) n) :
    writesByte i address value fun s t => { t with pc := s.pc + n } :=
  writesByte_of_writeThen hexec fun _ _ hpc => finish_of_pc_eq hpc n

theorem setPair_hl (s : State) (v : Word) : setPair s .hl v = { s with h := high v, l := low v } :=
  setPair_eq_writePair s .hl v

/-- A load of A that steps HL by `delta` after its read. -/
theorem readsByte_of_loadStep {i : Instr} {delta : Word} (hexec : ∀ s, exec i s = loadStep s delta) :
    readsByte i hl fun s v =>
      { s with a := v, h := high (hl s + delta), l := low (hl s + delta), pc := s.pc + 1 } := by
  have hread : ∀ s, exec i s =
      readThen none s (hl s) fun v => finish (setPair (setReg8 s .a v) .hl (hl s + delta)) 1 :=
    fun s => by rw [hexec, loadStep, hlAddress_eq_hl]
  refine readsByte_of_readThen hread fun s v => ?_
  rw [setPair_hl]
  rfl

/-- A store of A that steps HL by `delta` after its write. -/
theorem writesByte_of_storeStep {i : Instr} {delta : Word} (hexec : ∀ s, exec i s = storeStep s delta) :
    writesByte i hl (fun s => s.a) fun s t =>
      { t with h := high (hl s + delta), l := low (hl s + delta), pc := s.pc + 1 } := by
  have hwrite : ∀ s, exec i s =
      writeThen none s (hl s) s.a fun t => finish (setPair t .hl (hl s + delta)) 1 :=
    fun s => by rw [hexec, storeStep, hlAddress_eq_hl]
  refine writesByte_of_writeThen hwrite fun s t hpc => ?_
  rw [finish_of_pc_eq ((setPair_pc t .hl _).trans hpc), setPair_hl]

/-! ### One byte (R130-R148) -/

/-- Settles O33: the rows of LD r,r' and LD r,n, and that a register write leaves PC. -/
theorem loadRegisterOrImmediate : Obligations.LoadRegisterOrImmediate := by
  refine ⟨fun dst src => encodedAs_of_plain (baseRow_ldRegReg dst src), fun dst src s => ?_,
    fun dst => encodedAs_of_imm8 (baseRow_ldRegImm dst), fun dst n s => ?_,
    fun dst => operandFaults_of_imm8 (baseRow_ldRegImm dst)⟩
  · rw [exec_ldRegReg]
    exact finish_of_pc_eq (setReg8_pc s dst (reg8 s src)) 1
  · rw [exec_ldRegImm]
    exact finish_of_pc_eq (setReg8_pc s dst n) 2

/-- LD r,(HL): the read, then the register write, which leaves PC (R132). -/
theorem readsByte_ldRegInd (dst : Reg8) :
    readsByte (.ldRegInd dst) hl fun s v => { setReg8 s dst v with pc := s.pc + 1 } := by
  refine readsByte_of_readThen (fun s => ?_) fun s v => finish_of_pc_eq (setReg8_pc s dst v) 1
  rw [exec_ldRegInd, ldRegInd, hlAddress_eq_hl]

/-- A load of A from the high page always completes (R141, R143). -/
theorem loadA_highPage {i : Instr} {offset : State → Byte} {n : Word}
    (hexec : ∀ s, exec i s = loadAThenFinish s (highPage (offset s)) n) (s : State) :
    ∃ v, busRead s (word 0xFF (offset s)) = .ok v ∧ exec i s = .next { s with a := v, pc := s.pc + n } := by
  simp only [highPage_eq_word] at hexec
  obtain ⟨v, hv⟩ := busRead_highPage_ok s (offset s)
  obtain ⟨hok, -⟩ := readsByte_of_loadA hexec s
  exact ⟨v, hv, hok v hv⟩

/-- Settles O34: each form's row, and the shape of its load; the high-page forms by `loadA_highPage`. -/
theorem loadFromMemory : Obligations.LoadFromMemory := by
  refine ⟨fun dst => ⟨encodedAs_of_plain (baseRow_ldRegInd dst), readsByte_ldRegInd dst⟩,
    ⟨encodedAs_of_plain rfl, readsByte_of_loadA fun s => ?_⟩, ⟨encodedAs_of_plain rfl, readsByte_of_loadA fun s => ?_⟩,
    fun nn => ⟨encodedAs_of_imm16 rfl nn, readsByte_of_loadA fun s => exec_ldAIndNn s nn⟩,
    fun n => ⟨encodedAs_of_imm8 rfl n, loadA_highPage (offset := fun _ => n) fun s => exec_ldhAIndN s n⟩,
    ⟨encodedAs_of_plain rfl, loadA_highPage (offset := State.c) exec_ldAIndC⟩,
    operandFaults_of_imm16 rfl, operandFaults_of_imm8 rfl⟩
  · rw [exec_ldAIndBc, pair_eq_pairValue]
    rfl
  · rw [exec_ldAIndDe, pair_eq_pairValue]
    rfl

/-- A store of A to the high page always completes (R142, R144). -/
theorem storeA_highPage {i : Instr} {offset : State → Byte} {n : Word}
    (hexec : ∀ s, exec i s = storeThenFinish s (highPage (offset s)) s.a n) (s : State) :
    ∃ t, busWrite s (word 0xFF (offset s)) s.a = .ok t ∧ exec i s = .next { t with pc := s.pc + n } := by
  simp only [highPage_eq_word] at hexec
  obtain ⟨t, ht⟩ := busWrite_highPage_ok s (offset s) s.a
  obtain ⟨hok, -⟩ := writesByte_of_store hexec s
  exact ⟨t, ht, hok t ht⟩

/-- Settles O35: each form's row, and the shape of its store; the high-page forms by `storeA_highPage`. -/
theorem storeToMemory : Obligations.StoreToMemory := by
  refine ⟨fun src => ⟨encodedAs_of_plain (baseRow_ldIndReg src), writesByte_of_store fun s => ?_⟩,
    fun n => ⟨encodedAs_of_imm8 rfl n, writesByte_of_store fun s => ?_⟩,
    ⟨encodedAs_of_plain rfl, writesByte_of_store fun s => ?_⟩, ⟨encodedAs_of_plain rfl, writesByte_of_store fun s => ?_⟩,
    fun nn => ⟨encodedAs_of_imm16 rfl nn, writesByte_of_store fun s => exec_ldIndNnA s nn⟩,
    fun n => ⟨encodedAs_of_imm8 rfl n, storeA_highPage (offset := fun _ => n) fun s => exec_ldhIndNA s n⟩,
    ⟨encodedAs_of_plain rfl, storeA_highPage (offset := State.c) exec_ldIndCA⟩,
    operandFaults_of_imm8 rfl, operandFaults_of_imm16 rfl, operandFaults_of_imm8 rfl⟩
  · rw [exec_ldIndReg, ldIndReg, hlAddress_eq_hl]
  · rw [exec_ldIndHlN, hlAddress_eq_hl]
  · rw [exec_ldIndBcA, pair_eq_pairValue]
    rfl
  · rw [exec_ldIndDeA, pair_eq_pairValue]
    rfl

/-- Settles O36: the stepping operations, with a step of -1 for the decrementing forms. -/
theorem loadAndStepHl : Obligations.LoadAndStepHl := by
  unfold Obligations.LoadAndStepHl
  simp only [BitVec.sub_eq_add_neg]
  exact ⟨⟨encodedAs_of_plain rfl, writesByte_of_storeStep exec_ldIndHlIncA⟩,
    ⟨encodedAs_of_plain rfl, readsByte_of_loadStep exec_ldAIndHlInc⟩,
    ⟨encodedAs_of_plain rfl, writesByte_of_storeStep exec_ldIndHlDecA⟩,
    ⟨encodedAs_of_plain rfl, readsByte_of_loadStep exec_ldAIndHlDec⟩⟩

/-! ### Words (R149-R152) -/

theorem writePair_pc (s : State) (p : Pair) (v : Word) : (writePair s p v).pc = s.pc := by
  cases p <;> rfl

/-- LD (nn),SP: the low byte at nn, then the high byte at nn + 1 (R150). -/
theorem writesTwo_ldIndNnSp (nn : Word) :
    writesTwo (.ldIndNnSp nn) (fun _ => nn) (fun s => low s.sp) (fun _ => nn + 1) (fun s => high s.sp)
      fun s t => { t with pc := s.pc + 3 } := by
  refine writesTwo_of_writeThen (fun s => ?_) fun s u hpc => finish_of_pc_eq hpc 3
  rw [exec_ldIndNnSp, storeSp, loByte_eq_low, hiByte_eq_high]

/-- Settles O37: the rows, the pair write against the spec's, and the two writes of LD (nn),SP. -/
theorem sixteenBitLoads : Obligations.SixteenBitLoads := by
  refine ⟨fun p => encodedAs_of_imm16 (baseRow_ldPairImm p), fun p nn s => ?_,
    fun p => operandFaults_of_imm16 (baseRow_ldPairImm p), encodedAs_of_imm16 rfl, writesTwo_ldIndNnSp,
    operandFaults_of_imm16 rfl, encodedAs_of_plain rfl, fun s => ?_⟩
  · rw [exec_ldPairImm, ldPairImm, setPair_eq_writePair]
    exact finish_of_pc_eq (writePair_pc s p nn) 3
  · rw [exec_ldSpHl, ldSpHl, hlAddress_eq_hl]
    rfl

/-- The two forms of the sign extension are one: `e` below 0x80, `e - 0x100` from there on (00_scope.md R9). -/
theorem sext16_eq_ofInt_signed8 (e : Byte) : sext16 e = BitVec.ofInt 16 (signed8 e) := by
  apply BitVec.eq_of_toNat_eq
  rw [BitVec.toNat_ofInt, sext16, signed8]
  split
  · have hjoin : (joinBytes 0x00 e).toNat = 0 * 256 + e.toNat := joinBytes_toNat 0x00 e
    omega
  · have hjoin : (joinBytes 0xFF e).toNat = 255 * 256 + e.toNat := joinBytes_toNat 0xFF e
    omega

/-- `SPplusE` as the spec's three results: the signed sum, and the carries of the low bytes with `e` unsigned (R200). -/
theorem spPlusE_eq (sp : Word) (e : Byte) : spPlusE sp e = (spSum sp e, spHalf sp e, spCarry sp e) := by
  have hsum : sp + sext16 e = spSum sp e := by
    rw [spSum, BitVec.ofInt_add, sext16_eq_ofInt_signed8, BitVec.ofInt_natCast, BitVec.ofNat_toNat,
      BitVec.setWidth_eq]
  have hnibble : lowNibble e = e.toNat % 16 := Nat.and_two_pow_sub_one_eq_mod e.toNat 4
  have hlow4 : (sp &&& 0x000F).toNat = sp.toNat % 16 := Nat.and_two_pow_sub_one_eq_mod sp.toNat 4
  have hlow8 : (sp &&& 0x00FF).toNat = sp.toNat % 256 := Nat.and_two_pow_sub_one_eq_mod sp.toNat 8
  rw [spPlusE, hsum, hnibble, hlow4, hlow8]
  rfl

/-- Settles O38: `SPplusE` by `spPlusE_eq`, and its flag update as the spec's byte. -/
theorem stackPointerPlusDisplacement : Obligations.StackPointerPlusDisplacement := by
  refine ⟨encodedAs_of_imm8 rfl, fun e s => ?_, operandFaults_of_imm8 rfl, encodedAs_of_imm8 rfl, fun e s => ?_,
    operandFaults_of_imm8 rfl⟩
  · simp only [exec_ldHlSpE, ldHlSpE, spPlusE_eq, withFlags, setPair_hl, updateFlags_eq_flagByte, Option.getD_some]
    rfl
  · simp only [exec_addSpE, addSpE, spPlusE_eq, withFlags, setSp_f, updateFlags_eq_flagByte, Option.getD_some]
    rfl

/-! ### The stack (R153-R155) -/

/-- PUSH is `Push16` of the pair's value, then the end of the rule (R153). -/
theorem pushes_pushPair (q : StackPair) :
    pushes (.pushPair q) (fun s => stackPairValue s q) fun s t => { t with pc := s.pc + 1 } := by
  refine pushes_of_push16 (fun s => ?_) fun s u hpc => finish_of_pc_eq hpc 1
  rw [exec_pushPair, pushPair, stackPair_eq_stackPairValue]

theorem writeStackPair_pc (s : State) (q : StackPair) (v : Word) : (writeStackPair s q v).pc = s.pc := by
  cases q <;> rfl

/-- POP is `Pop16`, then the write of the pair, which leaves PC (R154, R155). -/
theorem pops_popPair (q : StackPair) :
    pops (.popPair q) fun s v => { writeStackPair s q v with pc := s.pc + 1 } := by
  refine pops_of_pop16 (fun s => exec_popPair s q) fun s v => ?_
  rw [setStackPair_eq_writeStackPair]
  exact finish_of_pc_eq (writeStackPair_pc s q v) 1

/-! The model's operations `pushPair` and `popPair` have the names of the two statements, so these stand under `Loads`. -/

/-- Settles O39: the row of PUSH qq, and its shape by `pushes_pushPair`. -/
theorem Loads.pushPair : Obligations.PushPair :=
  fun q => ⟨encodedAs_of_plain (baseRow_pushPair q), pushes_pushPair q⟩

/-- Settles O40: the row of POP qq, and its shape by `pops_popPair`. -/
theorem Loads.popPair : Obligations.PopPair :=
  fun q => ⟨encodedAs_of_plain (baseRow_popPair q), pops_popPair q⟩

end Sys2Proof.Machine
end

section
/-! PROOFS. 8-bit arithmetic and logic (41_alu8.md R170-R186): the results and flags of the shared operations over unbounded
numbers, the three source forms of an ALU operation, a read and a write of the byte at HL, and the statements. -/

namespace Sys2Proof.Machine

open Sys2Proof.Claims

/-! ### Bytes as numbers (00_scope.md R7, R8) -/

theorem lowNibble_eq_mod (v : Byte) : lowNibble v = v.toNat % 16 := Nat.and_two_pow_sub_one_eq_mod v.toNat 4

/-- The zero test of a wrapped natural number. -/
theorem ofNat8_beq_zero (n : Nat) : (BitVec.ofNat 8 n == 0) = (n % 256 == 0) := by
  rw [Bool.eq_iff_iff, beq_iff_eq, beq_iff_eq, BitVec.toNat_eq, BitVec.toNat_ofNat]
  rfl

/-- The zero test of a wrapped integer. -/
theorem ofInt8_beq_zero (k : Int) : (BitVec.ofInt 8 k == 0) = (k % 256 == 0) := by
  have hzero : (0 : Byte).toNat = 0 := rfl
  rw [Bool.eq_iff_iff, beq_iff_eq, beq_iff_eq, BitVec.toNat_eq, BitVec.toNat_ofInt, hzero]
  omega

theorem sub_eq_ofInt8 (a x : Byte) : a - x = BitVec.ofInt 8 (a.toNat - x.toNat) := by
  apply BitVec.eq_of_toNat_eq
  rw [BitVec.toNat_sub, BitVec.toNat_ofInt]
  omega

/-! ### Sums and differences (R171-R174): ADD is ADC with the carry clear, SUB and CP are SBC with the borrow clear -/

theorem aluResult_adc (a x : Byte) (c : Bool) :
    aluResult .adc a x c = BitVec.ofNat 8 (a.toNat + x.toNat + c.toNat) := by
  rw [BitVec.ofNat_add, ← BitVec.add_def]
  cases c <;> rfl

theorem aluResult_sbc (a x : Byte) (c : Bool) :
    aluResult .sbc a x c = BitVec.ofInt 8 (a.toNat - x.toNat - c.toNat) := by
  have hborrow : (if c then 1 else 0 : Byte).toNat = c.toNat := by cases c <;> rfl
  have hc := c.toNat_le
  apply BitVec.eq_of_toNat_eq
  rw [aluResult, BitVec.toNat_sub, BitVec.toNat_sub, BitVec.toNat_ofInt, hborrow]
  omega

theorem aluResult_add (a x : Byte) (c : Bool) : aluResult .add a x c = aluResult .adc a x false := (BitVec.add_zero _).symm

theorem aluResult_sub (a x : Byte) (c : Bool) : aluResult .sub a x c = aluResult .sbc a x false := (BitVec.sub_zero _).symm

theorem aluFlags_add (a x : Byte) (c : Bool) : aluFlags .add a x c = aluFlags .adc a x false := by
  simp only [aluFlags, aluResult_add]
  rfl

theorem aluFlags_sub (a x : Byte) (c : Bool) : aluFlags .sub a x c = aluFlags .sbc a x false := by
  simp only [aluFlags, aluResult_sub]
  rfl

theorem aluFlags_cp (a x : Byte) (c : Bool) : aluFlags .cp a x c = aluFlags .sub a x c := rfl

/-- F after an addition (R171, R172). -/
theorem updateFlags_adc (f a x : Byte) (c : Bool) :
    updateFlags f (aluFlags .adc a x c) =
      flagByte f ((a.toNat + x.toNat + c.toNat) % 256 == 0) false (decide (a.toNat % 16 + x.toNat % 16 + c.toNat > 15))
        (decide (a.toNat + x.toNat + c.toNat > 255)) := by
  simp only [aluFlags, updateFlags_eq_flagByte, aluResult_adc, ofNat8_beq_zero, lowNibble_eq_mod, Option.getD_some]

/-- F after a subtraction or a comparison (R173, R174, R178). -/
theorem updateFlags_sbc (s : State) (x : Byte) (c : Bool) :
    updateFlags s.f (aluFlags .sbc s.a x c) = subFlags c.toNat s x := by
  simp only [aluFlags, updateFlags_eq_flagByte, aluResult_sbc, ofInt8_beq_zero, lowNibble_eq_mod, Option.getD_some, subFlags]

/-! ### The state after an ALU operation, and its three source forms (R170) -/

/-- Every ALU operation writes A but CP, and F, and advances PC. -/
theorem aluOn_eq (s : State) (op : AluOp) (x : Byte) (n : Word) :
    aluOn s op x n = .next { s with
      a := if op = .cp then s.a else aluResult op s.a x (cf s)
      f := updateFlags s.f (aluFlags op s.a x (cf s)), pc := s.pc + n } := by
  cases op <;> rfl

theorem aluOn_adc (s : State) (x : Byte) (n : Word) : aluOn s .adc x n = .next (addEffect (cf s).toNat s x n) := by
  rw [aluOn_eq, updateFlags_adc, aluResult_adc]
  rfl

theorem aluOn_add (s : State) (x : Byte) (n : Word) : aluOn s .add x n = .next (addEffect 0 s x n) := by
  rw [aluOn_eq, aluFlags_add, updateFlags_adc, aluResult_add, aluResult_adc]
  rfl

theorem aluOn_sbc (s : State) (x : Byte) (n : Word) : aluOn s .sbc x n = .next (subEffect (cf s).toNat s x n) := by
  rw [aluOn_eq, updateFlags_sbc, aluResult_sbc]
  rfl

theorem aluOn_sub (s : State) (x : Byte) (n : Word) : aluOn s .sub x n = .next (subEffect 0 s x n) := by
  rw [aluOn_eq, aluFlags_sub, updateFlags_sbc, aluResult_sub, aluResult_sbc]
  rfl

theorem aluOn_cp (s : State) (x : Byte) (n : Word) :
    aluOn s .cp x n = .next { s with f := subFlags 0 s x, pc := s.pc + n } := by
  rw [aluOn_eq, aluFlags_cp, aluFlags_sub, updateFlags_sbc]
  rfl

/-- AND, XOR and OR: the operation's own bitwise result and H, with Z of the result, N and C clear (R175-R177). -/
theorem aluOn_logic {op : AluOp} {result : Byte → Byte → Byte} {h : Bool} (hcp : op ≠ .cp)
    (hresult : ∀ a x c, aluResult op a x c = result a x)
    (hflags : ∀ a x c, aluFlags op a x c = ⟨some (result a x == 0), some false, some h, some false⟩)
    (s : State) (x : Byte) (n : Word) : aluOn s op x n = .next (logicEffect result h s x n) := by
  rw [aluOn_eq, hflags, updateFlags_eq_flagByte, if_neg hcp, hresult]
  rfl

theorem aluOn_and : ∀ s x n, aluOn s .and x n = .next (logicEffect (fun a x => a &&& x) true s x n) :=
  aluOn_logic (by decide) (fun _ _ _ => rfl) fun _ _ _ => rfl

theorem aluOn_xor : ∀ s x n, aluOn s .xor x n = .next (logicEffect (fun a x => a ^^^ x) false s x n) :=
  aluOn_logic (by decide) (fun _ _ _ => rfl) fun _ _ _ => rfl

theorem aluOn_or : ∀ s x n, aluOn s .or x n = .next (logicEffect (fun a x => a ||| x) false s x n) :=
  aluOn_logic (by decide) (fun _ _ _ => rfl) fun _ _ _ => rfl

/-- The opcode of an ALU operation with the source B (30_encoding.md R106, R112). -/
def aluRow : AluOp → Byte
  | .add => 0x80
  | .adc => 0x88
  | .sub => 0x90
  | .sbc => 0x98
  | .and => 0xA0
  | .xor => 0xA8
  | .or => 0xB0
  | .cp => 0xB8

/-- The opcode of an ALU operation with an immediate source (30_encoding.md R106, R112). -/
def aluImmediate : AluOp → Byte
  | .add => 0xC6
  | .adc => 0xCE
  | .sub => 0xD6
  | .sbc => 0xDE
  | .and => 0xE6
  | .xor => 0xEE
  | .or => 0xF6
  | .cp => 0xFE

theorem baseRow_aluReg (op : AluOp) (src : Reg8) : baseRow (aluRow op + regCode src) = .plain (.aluReg op src) := by
  cases op <;> cases src <;> rfl

theorem baseRow_aluInd (op : AluOp) : baseRow (aluRow op + 6) = .plain (.aluInd op) := by
  cases op <;> rfl

theorem baseRow_aluImm (op : AluOp) : baseRow (aluImmediate op) = .imm8 (.aluImm op) := by
  cases op <;> rfl

/-- The three source forms of an ALU operation, from its effect on a source value. -/
theorem aluRule_of_aluOn {op : AluOp} {effect : State → Byte → Word → State}
    (heffect : ∀ s x n, aluOn s op x n = .next (effect s x n)) : aluRule op (aluRow op) (aluImmediate op) effect := by
  refine ⟨fun src => encodedAs_of_plain (baseRow_aluReg op src), encodedAs_of_plain (baseRow_aluInd op),
    encodedAs_of_imm8 (baseRow_aluImm op), fun src s => ?_,
    readsByte_of_readThen (fun s => ?_) fun s v => heffect s v 1, fun n s => ?_,
    operandFaults_of_imm8 (baseRow_aluImm op)⟩
  · rw [exec_aluReg, aluReg, heffect]
  · rw [exec_aluInd, aluInd, hlAddress_eq_hl]
  · rw [exec_aluImm, aluImm, heffect]

/-- Settles O41: the unbounded sums of ADD and ADC, in the three source forms. -/
theorem addAndAddWithCarry : Obligations.AddAndAddWithCarry :=
  ⟨aluRule_of_aluOn aluOn_add, aluRule_of_aluOn aluOn_adc⟩

/-- Settles O42: the differences of SUB, SBC and CP, in the three source forms. -/
theorem subtractAndCompare : Obligations.SubtractAndCompare :=
  ⟨aluRule_of_aluOn aluOn_sub, aluRule_of_aluOn aluOn_sbc, aluRule_of_aluOn aluOn_cp⟩

/-- Settles O43: the bitwise results of AND, XOR and OR, in the three source forms. -/
theorem andXorOr : Obligations.AndXorOr :=
  ⟨aluRule_of_aluOn aluOn_and, aluRule_of_aluOn aluOn_xor, aluRule_of_aluOn aluOn_or⟩

/-! ### INC and DEC (R179-R182) -/

/-- The end of a rule that writes flags, in a state whose other updates left F and PC. -/
theorem finish_withFlags {s t : State} (hf : t.f = s.f) (hpc : t.pc = s.pc) (u : FlagUpdate) (n : Word) :
    finish (withFlags t u) n = .next { t with f := updateFlags s.f u, pc := s.pc + n } := by
  rw [finish_of_pc_eq (t := withFlags t u) hpc, withFlags, hf]

theorem succ_mod256_beq_zero (v : Byte) : ((v.toNat + 1) % 256 == 0) = (v.toNat == 0xFF) := by
  rw [Bool.eq_iff_iff, beq_iff_eq, beq_iff_eq]
  omega

theorem pred_mod256_beq_zero (v : Byte) : (((v.toNat : Int) - 1) % 256 == 0) = (v.toNat == 1) := by
  rw [Bool.eq_iff_iff, beq_iff_eq, beq_iff_eq]
  omega

theorem add_one_eq_ofNat8 (v : Byte) : v + 1 = BitVec.ofNat 8 (v.toNat + 1) := BitVec.add_def v 1

theorem sub_one_eq_ofInt8 (v : Byte) : v - 1 = BitVec.ofInt 8 (v.toNat - 1) := sub_eq_ofInt8 v 1

/-- F after INC: Z and H of the byte stepped up, C as it was (R179, R180). -/
theorem updateFlags_incFlags (s : State) (v : Byte) :
    updateFlags s.f (incFlags v) = flagByte s.f (v.toNat == 0xFF) false (v.toNat % 16 == 0x0F) (cf s) := by
  rw [incFlags, updateFlags_eq_flagByte, add_one_eq_ofNat8, ofNat8_beq_zero, succ_mod256_beq_zero, lowNibble_eq_mod]
  rfl

/-- F after DEC: Z and H of the byte stepped down, C as it was (R181, R182). -/
theorem updateFlags_decFlags (s : State) (v : Byte) :
    updateFlags s.f (decFlags v) = flagByte s.f (v.toNat == 1) true (v.toNat % 16 == 0) (cf s) := by
  rw [decFlags, updateFlags_eq_flagByte, sub_one_eq_ofInt8, ofInt8_beq_zero, pred_mod256_beq_zero, lowNibble_eq_mod]
  rfl

theorem baseRow_incReg (r : Reg8) : baseRow (0x04 + 8 * regCode r) = .plain (.incReg r) := by
  cases r <;> rfl

theorem baseRow_decReg (r : Reg8) : baseRow (0x05 + 8 * regCode r) = .plain (.decReg r) := by
  cases r <;> rfl

/-- Settles O44: the rows of INC r and DEC r, and the flags of the stepped byte. -/
theorem incrementAndDecrementRegister : Obligations.IncrementAndDecrementRegister := by
  refine ⟨fun r => encodedAs_of_plain (baseRow_incReg r), fun r s => ?_,
    fun r => encodedAs_of_plain (baseRow_decReg r), fun r s => ?_⟩
  · rw [exec_incReg, incReg, finish_withFlags (setReg8_f s r _) (setReg8_pc s r _), updateFlags_incFlags,
      add_one_eq_ofNat8]
  · rw [exec_decReg, decReg, finish_withFlags (setReg8_f s r _) (setReg8_pc s r _), updateFlags_decFlags,
      sub_one_eq_ofInt8]

/-- Where an address reads, it can be written: below 0x8000 a write never faults, and from there on both lead to the same
place (20_memory.md R51, R63). -/
theorem busWrite_ok_of_busRead_ok {s : State} {address : Word} {v : Byte} (h : busRead s address = .ok v) (x : Byte) :
    ∃ t, busWrite s address x = .ok t := by
  rw [busRead] at h
  rw [busWrite]
  split_ifs
  · exact ⟨_, rfl⟩
  · cases hp : place s address with
    | ok p => exact ⟨_, rfl⟩
    | error e => rw [hp] at h; cases h

/-- A rule that reads the byte at HL, writes one to the same address, and ends in a state that may use that the write left F
and PC (43_rotate_shift.md R214): the write completes where the read does. -/
theorem exec_readThen_writeThen_hl {i : Instr} {sub : Option Byte} {result : State → Byte → Byte}
    {after : State → Byte → State → State} {rest : State → Byte → State → Result}
    (hexec : ∀ s, exec i s =
      readThen sub s (hlAddress s) fun v => writeThen sub s (hlAddress s) (result s v) (rest s v))
    (hrest : ∀ s v t, t.f = s.f → t.pc = s.pc → rest s v t = .next (after s v t)) (s : State) :
    (∀ v, busRead s (hl s) = .ok v →
        ∃ t, busWrite s (hl s) (result s v) = .ok t ∧ exec i s = .next (after s v t)) ∧
      (∀ e, busRead s (hl s) = .error e → exec i s = accessFault sub s e) := by
  rw [hexec, hlAddress_eq_hl]
  refine ⟨fun v hv => ?_, fun e he => ?_⟩
  · obtain ⟨t, ht⟩ := busWrite_ok_of_busRead_ok hv (result s v)
    obtain ⟨-, hf, -, hpc, -⟩ := busWrite_keeps ht
    exact ⟨t, ht, by rw [readThen_ok hv, writeThen_ok ht, hrest s v t hf hpc]⟩
  · rw [readThen_error he]
    rfl

/-- Settles O45: a read and a write of the byte at HL, and the flags of the stepped byte. -/
theorem incrementAndDecrementMemory : Obligations.IncrementAndDecrementMemory := by
  unfold Obligations.IncrementAndDecrementMemory
  simp only [← add_one_eq_ofNat8, ← sub_one_eq_ofInt8, ← updateFlags_incFlags, ← updateFlags_decFlags]
  exact ⟨⟨encodedAs_of_plain rfl,
      exec_readThen_writeThen_hl exec_incIndHl fun _ v _ hf hpc => finish_withFlags hf hpc (incFlags v) 1⟩,
    ⟨encodedAs_of_plain rfl,
      exec_readThen_writeThen_hl exec_decIndHl fun _ v _ hf hpc => finish_withFlags hf hpc (decFlags v) 1⟩⟩

/-! ### DAA, CPL, SCF and CCF (R183-R186) -/

/-- The two corrections of DAA have no bit in common: joined, they are added. -/
theorem toNat_daa_correction (high low : Bool) :
    ((if high then 0x60 else 0x00 : Byte) ||| (if low then 0x06 else 0x00)).toNat =
      (if high then 0x60 else 0) + (if low then 0x06 else 0) := by
  cases high <;> cases low <;> rfl

/-- DAA's adjustment over unbounded numbers (R183). -/
theorem daaResult_eq_decimalAdjusted (a : Byte) (n h c : Bool) : daaResult a n h c = decimalAdjusted a.toNat n h c := by
  cases n with
  | true =>
    simp only [daaResult, decimalAdjusted, if_true, sub_eq_ofInt8, toNat_daa_correction, Nat.cast_add, Nat.cast_ite,
      Nat.cast_ofNat, Nat.cast_zero, sub_sub]
  | false =>
    simp only [daaResult, decimalAdjusted, Bool.false_eq_true, if_false, BitVec.add_def, toNat_daa_correction,
      lowNibble_eq_mod, add_assoc]

/-! The model's operation `decimalAdjust` has the name of the statement, so this stands under `Alu8`. -/

/-- Settles O46: the adjustment by `daaResult_eq_decimalAdjusted`, and its flag update as the spec's byte. -/
theorem Alu8.decimalAdjust : Obligations.DecimalAdjust := by
  refine ⟨encodedAs_of_plain rfl, fun s => ?_⟩
  rw [exec_daa, ← daaResult_eq_decimalAdjusted]
  refine (finish_withFlags (setReg8_f s .a _) (setReg8_pc s .a _) _ 1).trans ?_
  rw [updateFlags_eq_flagByte]
  rfl

theorem not_eq_ofNat8 (a : Byte) : ~~~a = BitVec.ofNat 8 (255 - a.toNat) := by
  apply BitVec.eq_of_toNat_eq
  rw [BitVec.toNat_not, BitVec.toNat_ofNat]
  omega

/-- Settles O48: the complement as a number, and the flag updates as the spec's bytes. -/
theorem complementAndCarryFlag : Obligations.ComplementAndCarryFlag := by
  refine ⟨encodedAs_of_plain rfl, fun s => ?_, encodedAs_of_plain rfl, fun s => ?_, encodedAs_of_plain rfl, fun s => ?_⟩
  · rw [exec_cpl, complementA, finish_withFlags (setReg8_f s .a _) (setReg8_pc s .a _), updateFlags_eq_flagByte,
      not_eq_ofNat8]
    rfl
  · rw [exec_scf, setCarry, finish_withFlags rfl rfl, updateFlags_eq_flagByte]
    rfl
  · rw [exec_ccf, complementCarry, finish_withFlags rfl rfl, updateFlags_eq_flagByte]
    rfl

end Sys2Proof.Machine
end

section
/-! PROOFS. 16-bit arithmetic (42_alu16.md R201-R203): the rows of the base table that hold it, the sums over unbounded numbers,
and the statement. -/

namespace Sys2Proof.Machine

open Sys2Proof.Claims

/-! ### Rows of the base table (30_encoding.md R103, R112) -/

theorem baseRow_addHlPair (p : Pair) : baseRow (0x09 + pairCode p) = .plain (.addHlPair p) := by
  cases p <;> rfl

theorem baseRow_incPair (p : Pair) : baseRow (0x03 + pairCode p) = .plain (.incPair p) := by
  cases p <;> rfl

theorem baseRow_decPair (p : Pair) : baseRow (0x0B + pairCode p) = .plain (.decPair p) := by
  cases p <;> rfl

/-! ### The shared operations of the family -/

/-- F after ADD HL,rr: Z as it was, H and C from the sums of the low 12 bits and of the words (R201). -/
theorem updateFlags_addHlFlags (s : State) (x y : Word) :
    updateFlags s.f (addHlFlags x y) = flagByte s.f (zf s) false
      (decide (x.toNat % 4096 + y.toNat % 4096 > 4095)) (decide (x.toNat + y.toNat > 65535)) := by
  have hlow12 (v : Word) : (v &&& 0x0FFF).toNat = v.toNat % 4096 := Nat.and_two_pow_sub_one_eq_mod v.toNat 12
  rw [addHlFlags, updateFlags_eq_flagByte, hlow12, hlow12]
  rfl

/-- A step of a pair writes the pair and PC alone (R202, R203). -/
theorem stepPair_eq (s : State) (p : Pair) (delta : Word) :
    stepPair s p delta = .next { writePair s p (pairValue s p + delta) with pc := s.pc + 1 } := by
  rw [stepPair, pair_eq_pairValue, setPair_eq_writePair]
  exact finish_of_pc_eq (writePair_pc s p _) 1

/-- A step down by one is the difference of the numbers, mod 2^16 (00_scope.md R7). -/
theorem add_neg_one_eq_ofInt16 (v : Word) : v + -1 = BitVec.ofInt 16 (v.toNat - 1) := by
  apply BitVec.eq_of_toNat_eq
  rw [BitVec.toNat_ofInt, BitVec.toNat_add]
  have hneg : (-1 : Word).toNat = 65535 := rfl
  omega

/-- Settles O49: the sum of ADD HL,rr with its flag update as the spec's byte, and the steps of a pair by `stepPair_eq`. -/
theorem sixteenBitArithmetic : Obligations.SixteenBitArithmetic := by
  refine ⟨fun p => encodedAs_of_plain (baseRow_addHlPair p), fun p s => ?_,
    fun p => encodedAs_of_plain (baseRow_incPair p), fun p s => ?_,
    fun p => encodedAs_of_plain (baseRow_decPair p), fun p s => ?_⟩
  · rw [exec_addHlPair, addHlPair, finish_withFlags (setPair_f s .hl _) (setPair_pc s .hl _), setPair_hl,
      hlAddress_eq_hl, pair_eq_pairValue, updateFlags_addHlFlags, BitVec.add_def]
  · rw [exec_incPair, stepPair_eq, BitVec.add_def]
    rfl
  · rw [exec_decPair, stepPair_eq, add_neg_one_eq_ofInt16]

end Sys2Proof.Machine
end

section
/-! PROOFS. Rotates, shifts and SWAP (43_rotate_shift.md R210-R222): the results over unbounded numbers, the shape of a CB rule
that writes its operand (R214), and the statements. -/

namespace Sys2Proof.Machine

open Sys2Proof.Claims

/-! ### A bit, and a byte made of two parts, as numbers -/

theorem getLsbD_seven_eq (v : Byte) : v.getLsbD 7 = (v.toNat / 128 == 1) := by
  rw [← BitVec.testBit_toNat, Nat.testBit_eq_decide_div_mod_eq, Bool.eq_iff_iff, decide_eq_true_iff, beq_iff_eq]
  omega

theorem getLsbD_zero_eq (v : Byte) : v.getLsbD 0 = (v.toNat % 2 == 1) := by
  rw [← BitVec.testBit_toNat, Nat.testBit_eq_decide_div_mod_eq, pow_zero, Nat.div_one]
  rfl

theorem toNat_beq_one {n : Nat} (h : n < 2) : (n == 1).toNat = n := by
  interval_cases n <;> rfl

/-- Bytes with no bit in common: joined, they are added. -/
theorem or_eq_ofNat8_add {x y : Byte} (h : ∀ i < 8, (x.getLsbD i && y.getLsbD i) = false) :
    x ||| y = BitVec.ofNat 8 (x.toNat + y.toNat) := by
  have hand : x &&& y = 0#8 := BitVec.eq_of_getLsbD_eq fun i hi => by
    rw [BitVec.getLsbD_and, h i hi, BitVec.getLsbD_zero]
  rw [← BitVec.add_eq_or_of_and_eq_zero x y hand, BitVec.add_def]

/-- A shift left with `c` entering at bit 0. -/
theorem shiftLeft_or_eq_ofNat8 (v : Byte) (c : Bool) :
    (v <<< 1) ||| (if c then 0x01 else 0x00) = BitVec.ofNat 8 (v.toNat * 2 + c.toNat) := by
  have hdisjoint : ∀ i < 8, ((v <<< 1).getLsbD i && (if c then 0x01 else 0x00 : Byte).getLsbD i) = false := by
    intro i hi
    cases c <;> interval_cases i <;> simp
  have hin : (if c then 0x01 else 0x00 : Byte).toNat = c.toNat := by cases c <;> rfl
  apply BitVec.eq_of_toNat_eq
  rw [or_eq_ofNat8_add hdisjoint, hin, BitVec.toNat_shiftLeft, Nat.shiftLeft_eq, BitVec.toNat_ofNat, BitVec.toNat_ofNat,
    pow_one, Nat.mod_add_mod]

/-- A shift right with `c` entering at bit 7. -/
theorem shiftRight_or_eq_ofNat8 (v : Byte) (c : Bool) :
    (v >>> 1) ||| (if c then 0x80 else 0x00) = BitVec.ofNat 8 (v.toNat / 2 + 128 * c.toNat) := by
  have hdisjoint : ∀ i < 8, ((v >>> 1).getLsbD i && (if c then 0x80 else 0x00 : Byte).getLsbD i) = false := by
    intro i hi
    cases c <;> interval_cases i <;> simp
  have hin : (if c then 0x80 else 0x00 : Byte).toNat = 128 * c.toNat := by cases c <;> rfl
  rw [or_eq_ofNat8_add hdisjoint, hin, BitVec.toNat_ushiftRight, Nat.shiftRight_eq_div_pow, pow_one]

/-- The two nibbles exchanged. -/
theorem swapNibbles_eq_ofNat8 (v : Byte) :
    (v <<< 4) ||| (v >>> 4) = BitVec.ofNat 8 (v.toNat % 16 * 16 + v.toNat / 16) := by
  have hdisjoint : ∀ i < 8, ((v <<< 4).getLsbD i && (v >>> 4).getLsbD i) = false := by
    intro i hi
    interval_cases i <;> simp
  rw [or_eq_ofNat8_add hdisjoint, BitVec.toNat_shiftLeft, Nat.shiftLeft_eq, BitVec.toNat_ushiftRight,
    Nat.shiftRight_eq_div_pow]
  congr 2
  omega

/-! ### Results and flags (R210-R222) -/

/-- The result and the bit shifted out are the spec's: the bit that enters is the bit shifted out (RLC, RRC), the carry
(RL, RR), the sign (SRA), or 0 (SLA, SRL). -/
theorem rotResult_eq_rotated (op : RotOp) (v : Byte) (cin : Bool) : rotResult op v cin = rotated op v cin := by
  have hbit7 := toNat_beq_one (n := v.toNat / 128) (by omega)
  have hbit0 := toNat_beq_one (n := v.toNat % 2) (by omega)
  cases op with
  | rlc => simp only [rotResult, rotated, shiftLeft_or_eq_ofNat8, getLsbD_seven_eq, hbit7]
  | rrc => simp only [rotResult, rotated, shiftRight_or_eq_ofNat8, getLsbD_zero_eq, hbit0]
  | rl => simp only [rotResult, rotated, shiftLeft_or_eq_ofNat8, getLsbD_seven_eq]
  | rr => simp only [rotResult, rotated, shiftRight_or_eq_ofNat8, getLsbD_zero_eq]
  | sla =>
    have hshift : v <<< 1 = BitVec.ofNat 8 (v.toNat * 2) := BitVec.or_zero.symm.trans (shiftLeft_or_eq_ofNat8 v false)
    simp only [rotResult, rotated, hshift, getLsbD_seven_eq]
  | sra =>
    have hsign : v &&& 0x80 = if v.getLsbD 7 then 0x80 else 0x00 := BitVec.and_twoPow v 7
    simp only [rotResult, rotated, hsign, shiftRight_or_eq_ofNat8, getLsbD_seven_eq, getLsbD_zero_eq, hbit7]
  | swap => simp only [rotResult, rotated, swapNibbles_eq_ofNat8]
  | srl =>
    have hshift : v >>> 1 = BitVec.ofNat 8 (v.toNat / 2) := BitVec.or_zero.symm.trans (shiftRight_or_eq_ofNat8 v false)
    simp only [rotResult, rotated, hshift, getLsbD_zero_eq]

theorem updateFlags_rotFlags (f : Byte) (r : Byte × Bool) :
    updateFlags f (rotFlags r) = flagByte f (r.1 == 0) false false r.2 :=
  updateFlags_eq_flagByte f _ _ _ _

theorem updateFlags_accRotFlags (f : Byte) (r : Byte × Bool) :
    updateFlags f (accRotFlags r) = flagByte f false false false r.2 :=
  updateFlags_eq_flagByte f _ _ _ _

/-- An accumulator rotate writes A, F and PC alone. -/
theorem rotateA_eq (s : State) (op : RotOp) :
    rotateA s op = .next { s with
      a := (rotated op s.a (cf s)).1
      f := flagByte s.f false false false (rotated op s.a (cf s)).2
      pc := s.pc + 1 } := by
  rw [← rotResult_eq_rotated, ← updateFlags_accRotFlags]
  rfl

/-- Settles O50: the four are the rotates of A by `rotateA_eq`. -/
theorem rotateAccumulator : Obligations.RotateAccumulator := by
  refine ⟨encodedAs_of_plain rfl, encodedAs_of_plain rfl, encodedAs_of_plain rfl, encodedAs_of_plain rfl,
    fun s row hrow => ?_⟩
  simp only [List.mem_cons, List.not_mem_nil, or_false] at hrow
  rcases hrow with rfl | rfl | rfl | rfl
  · exact (exec_rlca s).trans (rotateA_eq s .rlc)
  · exact (exec_rrca s).trans (rotateA_eq s .rrc)
  · exact (exec_rla s).trans (rotateA_eq s .rl)
  · exact (exec_rra s).trans (rotateA_eq s .rr)

/-! ### A CB rule that writes its operand (R214) -/

theorem encodedAs_of_decodeCb {sub : Byte} {i : Instr} (hcb : decodeCb sub = i) : encodedAs [0xCB, sub] i := by
  have hrow : baseRow 0xCB = .cb := rfl
  intro rest
  simp only [List.cons_append, List.nil_append, decode, hrow, hcb]

/-- A row of the CB table whose rule reads its operand, writes one back, and ends in a state that may use that the write left F
and PC. -/
theorem cbRule_of_writeTarget {i : Instr} {sub : Byte} {t : Target} {result flags : State → Byte → Byte}
    {rest : State → Byte → State → Result} (hcb : decodeCb sub = i)
    (hexec : ∀ s, exec i s =
      readTarget (some sub) s t fun v => writeTarget (some sub) s t (result s v) (rest s v))
    (hrest : ∀ s v u, u.f = s.f → u.pc = s.pc → rest s v u = .next { u with f := flags s v, pc := s.pc + 2 }) :
    cbRule i sub t result flags := by
  refine ⟨encodedAs_of_decodeCb hcb, ?_⟩
  cases t with
  | reg r => exact fun s => (hexec s).trans (hrest s (reg8 s r) _ (setReg8_f s r _) (setReg8_pc s r _))
  | indHl => exact exec_readThen_writeThen_hl hexec hrest

theorem decodeCb_cbRot (op : RotOp) (t : Target) : decodeCb (rotCode op + targetCode t) = .cbRot op t := by
  cases op <;> rcases t with (_ | _ | _ | _ | _ | _ | _) | _ <;> rfl

theorem cbCode_rot (op : RotOp) (t : Target) : cbCode 0 op.code t = rotCode op + targetCode t := by
  cases op <;> rcases t with (_ | _ | _ | _ | _ | _ | _) | _ <;> rfl

/-- Settles O51: a read and a write of the operand, with the result and the flags of `rotResult_eq_rotated`. -/
theorem rotateAndShift : Obligations.RotateAndShift := by
  intro op t
  simp only [← rotResult_eq_rotated, ← updateFlags_rotFlags]
  refine cbRule_of_writeTarget (decodeCb_cbRot op t) (fun s => ?_) fun s v u hf hpc => finish_withFlags hf hpc _ 2
  rw [exec_cbRot, rotateTarget, cbCode_rot]
  rfl

end Sys2Proof.Machine
end

section
/-! PROOFS. BIT, RES and SET (44_bit.md R230-R232): the sub-opcode made of its three fields, a bit tested, cleared and set as
numbers, and the statement. -/

namespace Sys2Proof.Machine

open Sys2Proof.Claims

/-! ### The sub-opcode and its fields (30_encoding.md R102, R111) -/

theorem targetOf_code (t : Target) : targetOf t.code = t := by
  rcases t with (_ | _ | _ | _ | _ | _ | _) | _ <;> rfl

theorem cbCode_group (gg : BitVec 2) (y : BitVec 3) (t : Target) : (cbCode gg y t).extractLsb' 6 2 = gg :=
  (BitVec.extractLsb'_append_eq_of_le (xhi := gg ++ y) (by decide)).trans BitVec.extractLsb'_append_eq_left

theorem cbCode_middle (gg : BitVec 2) (y : BitVec 3) (t : Target) : (cbCode gg y t).extractLsb' 3 3 = y :=
  (BitVec.extractLsb'_append_eq_of_le (xhi := gg ++ y) (by decide)).trans BitVec.extractLsb'_append_eq_right

theorem cbCode_operand (gg : BitVec 2) (y : BitVec 3) (t : Target) : (cbCode gg y t).extractLsb' 0 3 = t.code :=
  BitVec.extractLsb'_append_eq_right

/-- The row of the CB table that three fields select. -/
theorem decodeCb_cbCode (gg : BitVec 2) (y : BitVec 3) (t : Target) :
    decodeCb (cbCode gg y t) = pick4 gg (.cbRot (rotOf y) t) (.cbBit y t) (.cbRes y t) (.cbSet y t) := by
  simp only [decodeCb, cbCode_group, cbCode_middle, cbCode_operand, targetOf_code]

/-- The three fields, each in its place, are added. -/
theorem cbCode_eq_add (gg : BitVec 2) (y : BitVec 3) (t : Target) :
    cbCode gg y t = BitVec.ofNat 8 (64 * gg.toNat) + bitCode y + targetCode t := by
  rcases t with (_ | _ | _ | _ | _ | _ | _) | _ <;> revert gg y <;> decide

/-! ### A bit of a byte, as a number -/

theorem getLsbD_eq_div_mod (v : Byte) (i : Nat) : v.getLsbD i = decide (v.toNat / 2 ^ i % 2 = 1) := by
  rw [← BitVec.testBit_toNat, Nat.testBit_eq_decide_div_mod_eq]

theorem toNat_one_shiftLeft (b : BitVec 3) : ((1 : Byte) <<< b.toNat).toNat = 2 ^ b.toNat :=
  BitVec.toNat_twoPow_of_lt b.isLt

/-- What a byte holds at bit `b`, in its place. -/
theorem toNat_and_one_shiftLeft (v : Byte) (b : BitVec 3) :
    (v &&& (1 : Byte) <<< b.toNat).toNat = if v.toNat / 2 ^ b.toNat % 2 = 1 then 2 ^ b.toNat else 0 := by
  have hand : v &&& (1 : Byte) <<< b.toNat = if v.getLsbD b.toNat then (1 : Byte) <<< b.toNat else 0 :=
    BitVec.and_twoPow v b.toNat
  rw [hand, getLsbD_eq_div_mod, apply_ite BitVec.toNat, toNat_one_shiftLeft]
  simp only [decide_eq_true_iff]
  rfl

/-- Under a mask and outside it, two bytes have no bit in common: joined, they are added. -/
theorem andNot_or_and_eq_add (x y m : Byte) : (x &&& ~~~m) ||| (y &&& m) = (x &&& ~~~m) + (y &&& m) := by
  refine (BitVec.add_eq_or_of_and_eq_zero _ _ (BitVec.eq_of_getLsbD_eq fun i hi => ?_)).symm
  simp only [BitVec.getLsbD_and, BitVec.getLsbD_not, hi, BitVec.getLsbD_zero]
  cases m.getLsbD i <;> simp

/-- A byte without the bits of a mask is the difference of the numbers. -/
theorem toNat_andNot (v m : Byte) : (v &&& ~~~m).toNat = v.toNat - (v &&& m).toNat := by
  have hparts : (v &&& ~~~m) + (v &&& m) = v := by
    rw [← andNot_or_and_eq_add, ← BitVec.and_or_distrib_left, BitVec.not_or_self, BitVec.and_allOnes]
  have hle : (v &&& m).toNat ≤ v.toNat := Nat.and_le_left
  have hsum := congrArg BitVec.toNat hparts
  rw [BitVec.toNat_add] at hsum
  omega

/-- A mask joined to a byte is added to what the byte holds outside the mask. -/
theorem or_eq_andNot_add (v m : Byte) : v ||| m = (v &&& ~~~m) + m := by
  have hjoined := andNot_or_and_eq_add v m m
  rw [BitVec.and_self] at hjoined
  rw [← hjoined]
  apply BitVec.eq_of_getLsbD_eq
  intro i hi
  simp only [BitVec.getLsbD_or, BitVec.getLsbD_and, BitVec.getLsbD_not, hi]
  cases m.getLsbD i <;> simp

/-! ### Results and flags (R230-R232) -/

theorem resetBit_eq_bitCleared (v : Byte) (b : BitVec 3) : resetBit v b = bitCleared v b := by
  rw [bitCleared, ← toNat_and_one_shiftLeft, ← toNat_andNot, BitVec.ofNat_toNat, BitVec.setWidth_eq, resetBit]

theorem setBit_eq_bitSet (v : Byte) (b : BitVec 3) : setBit v b = bitSet v b := by
  have hle : (v &&& (1 : Byte) <<< b.toNat).toNat ≤ v.toNat := Nat.and_le_left
  rw [toNat_and_one_shiftLeft] at hle
  rw [setBit, or_eq_andNot_add, BitVec.add_def, toNat_andNot, toNat_and_one_shiftLeft, toNat_one_shiftLeft, bitSet]
  congr 1
  split_ifs at hle ⊢ <;> omega

/-- F after BIT: Z the complement of the bit, C as it was (R230). -/
theorem updateFlags_bitFlags (s : State) (v : Byte) (b : BitVec 3) :
    updateFlags s.f (bitFlags v b) = flagByte s.f (v.toNat / 2 ^ b.toNat % 2 == 0) false true (cf s) := by
  have hz : (!v.getLsbD b.toNat) = (v.toNat / 2 ^ b.toNat % 2 == 0) := by
    rw [getLsbD_eq_div_mod, Bool.eq_iff_iff, Bool.not_eq_true', decide_eq_false_iff_not, beq_iff_eq]
    omega
  rw [bitFlags, updateFlags_eq_flagByte, hz]
  rfl

/-! ### The statement -/

/-- BIT reads its operand and writes F and PC alone. -/
theorem exec_cbBit_eq (s : State) (b : BitVec 3) (t : Target) :
    exec (.cbBit b t) s = readTarget (some (cbCode 1 b t)) s t fun v =>
      .next { s with f := flagByte s.f (v.toNat / 2 ^ b.toNat % 2 == 0) false true (cf s), pc := s.pc + 2 } := by
  simp only [exec_cbBit, bitTarget, ← updateFlags_bitFlags]
  rfl

/-- The end of a rule that writes no flag, in a state whose updates left F and PC. -/
theorem finish_of_f_pc_eq {s t : State} (hf : t.f = s.f) (hpc : t.pc = s.pc) (n : Word) :
    finish t n = .next { t with f := s.f, pc := s.pc + n } := by
  rw [finish_of_pc_eq hpc, ← hf]

/-- RES writes its operand back with the bit cleared, and no flag. -/
theorem cbRule_cbRes (b : BitVec 3) (t : Target) :
    cbRule (.cbRes b t) (cbCode 2 b t) t (fun _ v => bitCleared v b) fun s _ => s.f := by
  simp only [← resetBit_eq_bitCleared]
  exact cbRule_of_writeTarget (rest := fun _ _ u => finish u 2) (decodeCb_cbCode 2 b t) (fun s => exec_cbRes s b t)
    fun _ _ _ hf hpc => finish_of_f_pc_eq hf hpc 2

/-- SET writes its operand back with the bit set, and no flag. -/
theorem cbRule_cbSet (b : BitVec 3) (t : Target) :
    cbRule (.cbSet b t) (cbCode 3 b t) t (fun _ v => bitSet v b) fun s _ => s.f := by
  simp only [← setBit_eq_bitSet]
  exact cbRule_of_writeTarget (rest := fun _ _ u => finish u 2) (decodeCb_cbCode 3 b t) (fun s => exec_cbSet s b t)
    fun _ _ _ hf hpc => finish_of_f_pc_eq hf hpc 2

/-- Settles O52: the rows by the fields of the sub-opcode; BIT is one read of the operand, RES and SET are a read and a write of
it, with the results as numbers. -/
theorem testResetAndSetBit : Obligations.TestResetAndSetBit := by
  have hbit (b : BitVec 3) (t : Target) : cbCode 1 b t = 0x40 + bitCode b + targetCode t := cbCode_eq_add 1 b t
  refine ⟨fun b t => ?_, fun b r s => exec_cbBit_eq s b (.reg r), fun b s => ⟨fun v hv => ?_, fun e he => ?_⟩,
    fun b t => cbCode_eq_add 2 b t ▸ cbRule_cbRes b t, fun b t => cbCode_eq_add 3 b t ▸ cbRule_cbSet b t⟩
  · rw [← hbit]
    exact encodedAs_of_decodeCb (decodeCb_cbCode 1 b t)
  · rw [exec_cbBit_eq, readTarget, hlAddress_eq_hl, readThen_ok hv]
  · rw [exec_cbBit_eq, readTarget, hlAddress_eq_hl, readThen_error he, hbit]
    rfl

end Sys2Proof.Machine
end

section
/-! PROOFS. Control transfer (45_control_flow.md R240-R250): the rows of the base table that hold it, a conditional rule as its
two outcomes, the two targets that are computed, and the statements. -/

namespace Sys2Proof.Machine

open Sys2Proof.Claims

/-! ### Rows of the base table (30_encoding.md R105, R106, R112) -/

theorem baseRow_jpCond (cc : Cond) : baseRow (0xC2 + condCode cc) = .imm16 (.jpCond cc) := by
  cases cc <;> rfl

theorem baseRow_jrCond (cc : Cond) : baseRow (0x20 + condCode cc) = .imm8 (.jrCond cc) := by
  cases cc <;> rfl

theorem baseRow_callCond (cc : Cond) : baseRow (0xC4 + condCode cc) = .imm16 (.callCond cc) := by
  cases cc <;> rfl

theorem baseRow_retCond (cc : Cond) : baseRow (0xC0 + condCode cc) = .plain (.retCond cc) := by
  cases cc <;> rfl

theorem baseRow_rst (k : BitVec 3) : baseRow (0xC7 + bitCode k) = .plain (.rst k) := by
  rcases bits3 k with rfl | rfl | rfl | rfl | rfl | rfl | rfl | rfl <;> rfl

/-! ### A conditional rule (R241, R244, R246, R248) -/

/-- A conditional jump writes PC alone, whichever way it goes. -/
theorem jump_or_finish (s : State) (cc : Cond) (target n : Word) :
    (if condHolds s cc then jump s target else finish s n) =
      .next { s with pc := if condition s cc then target else s.pc + n } := by
  rw [condHolds_eq_condition]
  split <;> rfl

theorem exec_callCond_taken {s : State} {cc : Cond} (h : condition s cc = true) (nn : Word) :
    exec (.callCond cc nn) s = exec (.callNn nn) s := by
  rw [exec_callCond, callIf, condHolds_eq_condition, h]
  rfl

theorem exec_callCond_not_taken {s : State} {cc : Cond} (h : condition s cc = false) (nn : Word) :
    exec (.callCond cc nn) s = .next { s with pc := s.pc + 3 } := by
  rw [exec_callCond, callIf, condHolds_eq_condition, h]
  rfl

theorem exec_retCond_taken {s : State} {cc : Cond} (h : condition s cc = true) :
    exec (.retCond cc) s = exec .ret s := by
  rw [exec_retCond, retIf, condHolds_eq_condition, h]
  rfl

theorem exec_retCond_not_taken {s : State} {cc : Cond} (h : condition s cc = false) :
    exec (.retCond cc) s = .next { s with pc := s.pc + 1 } := by
  rw [exec_retCond, retIf, condHolds_eq_condition, h]
  rfl

/-! ### Targets -/

/-- The target of a relative jump is one sum of numbers, mod 2^16 (00_scope.md R7, R9). -/
theorem relativeTarget_eq_ofInt (s : State) (e : Byte) :
    relativeTarget s e = BitVec.ofInt 16 (s.pc.toNat + 2 + signed8 e) := by
  rw [relativeTarget, sext16_eq_ofInt_signed8, BitVec.ofInt_add, BitVec.ofInt_add, BitVec.ofInt_natCast,
    BitVec.ofNat_toNat, BitVec.setWidth_eq]
  rfl

/-- The target of RST is 8 times its field, which a word holds (R250). -/
theorem rst_target_eq_ofNat (k : BitVec 3) : 8 * k.setWidth 16 = BitVec.ofNat 16 (8 * k.toNat) := by
  rw [BitVec.ofNat_mul, BitVec.ofNat_toNat]
  rfl

/-! ### Jumps (R240-R244) -/

/-- Settles O53: the rows, PC as the one field written, and the relative target by `relativeTarget_eq_ofInt`. -/
theorem jumps : Obligations.Jumps := by
  refine ⟨encodedAs_of_imm16 rfl, fun nn s => exec_jpNn s nn, fun cc => encodedAs_of_imm16 (baseRow_jpCond cc),
    fun cc nn s => ?_, encodedAs_of_plain rfl, fun s => ?_, encodedAs_of_imm8 rfl, fun e s => ?_,
    fun cc => encodedAs_of_imm8 (baseRow_jrCond cc), fun cc e s => ?_, operandFaults_of_imm16 rfl,
    fun cc => operandFaults_of_imm16 (baseRow_jpCond cc), operandFaults_of_imm8 rfl,
    fun cc => operandFaults_of_imm8 (baseRow_jrCond cc)⟩
  · rw [exec_jpCond, jumpIf, jump_or_finish]
  · rw [exec_jpHl, hlAddress_eq_hl]
    rfl
  · rw [exec_jrE, jumpRelative, relativeTarget_eq_ofInt]
    rfl
  · rw [exec_jrCond, jumpRelativeIf, jumpRelative, jump_or_finish, relativeTarget_eq_ofInt]

/-! ### Calls (R245, R246, R250) -/

/-- A rule that is a call: the address after the instruction is pushed, then PC is the target. -/
theorem pushes_of_call {i : Instr} {target length : Word} (hexec : ∀ s, exec i s = call s target length) :
    pushes i (fun s => s.pc + length) fun _ t => { t with pc := target } :=
  pushes_of_push16 hexec fun _ _ _ => rfl

/-- Settles O54: CALL and RST by `pushes_of_call`, CALL cc by its two outcomes. -/
theorem calls : Obligations.Calls :=
  ⟨encodedAs_of_imm16 rfl, fun nn => pushes_of_call fun s => exec_callNn s nn,
    fun cc => encodedAs_of_imm16 (baseRow_callCond cc), fun _ nn _ h => exec_callCond_taken h nn,
    fun _ nn _ h => exec_callCond_not_taken h nn, fun k => encodedAs_of_plain (baseRow_rst k),
    fun k => rst_target_eq_ofNat k ▸ pushes_of_call fun s => exec_rst s k, operandFaults_of_imm16 rfl,
    fun cc => operandFaults_of_imm16 (baseRow_callCond cc)⟩

/-! ### Returns (R247-R249) -/

/-- Settles O55: RET and RETI are a pop whose word becomes PC, RET cc by its two outcomes. -/
theorem returns : Obligations.Returns :=
  ⟨encodedAs_of_plain rfl, pops_of_pop16 exec_ret fun _ _ => rfl, fun cc => encodedAs_of_plain (baseRow_retCond cc),
    fun _ _ h => exec_retCond_taken h, fun _ _ h => exec_retCond_not_taken h, encodedAs_of_plain rfl,
    pops_of_pop16 exec_reti fun _ _ => rfl⟩

end Sys2Proof.Machine
end

section
/-! PROOFS. System and miscellaneous control (46_system.md R260-R264, R266): the rows of the illegal opcodes and what the
illegal-opcode fault leaves, what decodes being well formed, HALT as its two outcomes, and the statements. -/

namespace Sys2Proof.Machine

open Sys2Proof.Claims

/-! ### Illegal opcodes (R266; 30_encoding.md R114) -/

theorem baseRow_illegal {op : Byte} (hop : op ∈ illegalBytes) : baseRow op = .plain (.illegal op) := by
  simp only [illegalBytes, List.mem_cons, List.not_mem_nil, or_false] at hop
  rcases hop with rfl | rfl | rfl | rfl | rfl | rfl | rfl | rfl | rfl | rfl | rfl <;> rfl

/-- The first byte's row makes the instruction, and every row of the two tables makes well-formed ones. -/
theorem wellFormed_of_decode {bytes rest : List Byte} {i : Instr} (h : decode bytes = .ok (i, rest)) :
    i.wellFormed = true := by
  cases bytes with
  | nil => cases h
  | cons op tail =>
    have henc := baseRow_encodes op
    cases hrow : baseRow op <;> rw [hrow] at henc <;> simp only [decode, hrow] at h
    case plain => cases h; exact Instr.Ordinary.wellFormed henc
    case imm8 =>
      rcases tail with _ | ⟨n, _⟩ <;> cases h
      exact (henc n).wellFormed
    case imm16 =>
      rcases tail with _ | ⟨lo, _ | ⟨hi, _⟩⟩ <;> cases h
      exact (henc (joinBytes hi lo)).wellFormed
    case stop => cases h; rfl
    case cb =>
      rcases tail with _ | ⟨sub, _⟩ <;> cases h
      · rfl
      · exact (decodeCb_encodes sub).wellFormed

theorem mem_illegalBytes_of_wellFormed {op : Byte} (h : (Instr.illegal op).wellFormed = true) : op ∈ illegalBytes :=
  List.contains_iff_mem.1 h

/-- A step that fetches an opcode whose row has no operands runs the row's instruction. -/
theorem step_of_plain {s : State} {op : Byte} {i : Instr} (hrow : baseRow op = .plain i) (hn : noStep s = none)
    (hop : busRead s s.pc = .ok op) : step s = exec i (setCurrentOp s op) := by
  rw [step_of_opcode hn hop]
  simp only [fetchOperands, hrow]

/-- The record names the opcode of the instruction, the pc as both pc and address, and nothing else (60_exceptions.md R301,
R307). -/
theorem illegal_eq (s : State) (op : Byte) :
    illegal s op = .fault (.illegalOpcode { s with
      fault := some { kind := .illegalOpcode, pc := s.pc, opcode := some op, sub := none, address := s.pc,
                      bankOffset := none } }) := rfl

/-- Settles O5: the eleven rows of the base table give the encoding and the step, `illegal_eq` the fault, and what decodes to
`illegal` is well formed. -/
theorem illegalOpcodesFault : Obligations.IllegalOpcodesFault := by
  refine ⟨fun op hop => ⟨encodedAs_of_plain (baseRow_illegal hop), fun s => ?_, fun s hn hread => ?_⟩,
    fun _ _ _ h => mem_illegalBytes_of_wellFormed (wellFormed_of_decode h)⟩
  · rw [exec_illegal, illegal_eq]
  · rw [step_of_plain (baseRow_illegal hop) hn hread, exec_illegal, illegal_eq]
    rfl

/-! ### STOP and HALT (R261, R262) -/

/-- STOP takes the byte after its opcode with it, whatever it is (30_encoding.md R116). -/
theorem encodedAs_stop (b : Byte) : encodedAs [0x10, b] .stop := by
  have hrow : baseRow 0x10 = .stop := rfl
  intro rest
  simp only [List.cons_append, List.nil_append, decode, hrow, List.drop_one, List.tail_cons]

theorem halt_completes {s : State} (h : s.config.interruptPolicy = .ignore ∨ pendingInterrupts s = 0) :
    halt s = .next (setRun (advance s 1) .halted) := by
  rw [halt, if_neg]
  rcases h with h | h <;> simp [h]

theorem halt_refuses {s : State} (hp : s.config.interruptPolicy = .refuseWhenPending) (h : pendingInterrupts s ≠ 0) :
    halt s = .refused .haltWithInterruptPending := by
  rw [halt, if_pos]
  simpa [hp] using h

/-- Settles O57: the rows, the fields that each rule writes, and HALT by its two outcomes. -/
theorem systemInstructions : Obligations.SystemInstructions :=
  ⟨encodedAs_of_plain rfl, fun s => exec_nop s, encodedAs_stop, fun s => exec_stop s, encodedAs_of_plain rfl,
    fun s => ⟨fun h => (exec_halt s).trans (halt_completes h), fun hp h => (exec_halt s).trans (halt_refuses hp h)⟩,
    encodedAs_of_plain rfl, fun s => exec_di s, encodedAs_of_plain rfl, fun s => exec_ei s⟩

end Sys2Proof.Machine
end

section
/-! PROOFS. The round trip between instructions and bytes (30_encoding.md): an instruction that a row of a decode table makes
is encoded with the row's byte (`baseRow_encodes`, `decodeCb_encodes`), and every well-formed instruction is made by a row. -/

namespace Sys2Proof.Machine

open Sys2Proof.Claims Sys2Proof.Laws.RoundTrip

/-! ### What a row of the base table makes -/

theorem encodes_of_row {op : Byte} {row : BaseRow} (hrow : baseRow op = row) : row.Encodes op :=
  hrow ▸ baseRow_encodes op

theorem ordinary_of_plain {op : Byte} {i : Instr} (hrow : baseRow op = .plain i) : i.Ordinary [op] :=
  encodes_of_row hrow

theorem ordinary_of_imm8 {op : Byte} {mk : Byte → Instr} (hrow : baseRow op = .imm8 mk) (n : Byte) :
    (mk n).Ordinary [op, n] := encodes_of_row hrow n

theorem ordinary_of_imm16 {op : Byte} {mk : Word → Instr} (hrow : baseRow op = .imm16 mk) (nn : Word) :
    (mk nn).Ordinary [op, loByte nn, hiByte nn] := encodes_of_row hrow nn

theorem op_of_stop {op : Byte} (hrow : baseRow op = .stop) : op = 0x10 := encodes_of_row hrow

theorem op_of_cb {op : Byte} (hrow : baseRow op = .cb) : op = 0xCB := encodes_of_row hrow

/-! ### From an instruction to its bytes and back -/

theorem roundTrip_of_plain {op : Byte} {i : Instr} (hrow : baseRow op = .plain i) : Statement i :=
  of_append fun rest => (ordinary_of_plain hrow).encoded ▸ encodedAs_of_plain hrow rest

theorem roundTrip_of_imm8 {op : Byte} {mk : Byte → Instr} (hrow : baseRow op = .imm8 mk) (n : Byte) :
    Statement (mk n) :=
  of_append fun rest => (ordinary_of_imm8 hrow n).encoded ▸ encodedAs_of_imm8 hrow n rest

theorem roundTrip_of_imm16 {op : Byte} {mk : Word → Instr} (hrow : baseRow op = .imm16 mk) (nn : Word) :
    Statement (mk nn) := by
  have hdec := encodedAs_of_imm16 hrow nn
  rw [← loByte_eq_low, ← hiByte_eq_high, ← (ordinary_of_imm16 hrow nn).encoded] at hdec
  exact of_append hdec

theorem roundTrip_of_cb {sub : Byte} {i : Instr} (hcb : decodeCb sub = i) : Statement i := by
  have henc : encode i = [0xCB, sub] := hcb ▸ (decodeCb_encodes sub).encoded
  exact of_append fun rest => henc ▸ encodedAs_of_decodeCb hcb rest

theorem roundTrip_stop : Statement .stop := of_append (encodedAs_stop 0x00)

/-- A CB byte alone is PREFIX CB, and a byte after it would be its sub-opcode (R265, log 10). -/
theorem roundTrip_prefixCb : Statement .prefixCb := fun _ => ⟨rfl, fun h => absurd rfl h⟩

theorem roundTrip_illegal (op : Byte) : Statement (.illegal op) := fun h =>
  roundTrip_of_plain (baseRow_illegal (mem_illegalBytes_of_wellFormed h)) h

/-- Every instruction, by its form: the row of the base table or of the CB table that makes it. -/
theorem roundTrip (i : Instr) : Statement i := by
  have hm := exec_meaning State.reset i
  generalize exec i State.reset = o at hm
  cases hm with
  | ldRegReg dst src => exact roundTrip_of_plain (baseRow_ldRegReg dst src)
  | ldRegImm dst n => exact roundTrip_of_imm8 (baseRow_ldRegImm dst) n
  | ldRegInd dst => exact roundTrip_of_plain (baseRow_ldRegInd dst)
  | ldIndReg src => exact roundTrip_of_plain (baseRow_ldIndReg src)
  | ldIndHlN n => exact roundTrip_of_imm8 (op := 0x36) rfl n
  | ldAIndBc => exact roundTrip_of_plain (op := 0x0A) rfl
  | ldAIndDe => exact roundTrip_of_plain (op := 0x1A) rfl
  | ldIndBcA => exact roundTrip_of_plain (op := 0x02) rfl
  | ldIndDeA => exact roundTrip_of_plain (op := 0x12) rfl
  | ldAIndNn nn => exact roundTrip_of_imm16 (op := 0xFA) rfl nn
  | ldIndNnA nn => exact roundTrip_of_imm16 (op := 0xEA) rfl nn
  | ldhAIndN n => exact roundTrip_of_imm8 (op := 0xF0) rfl n
  | ldhIndNA n => exact roundTrip_of_imm8 (op := 0xE0) rfl n
  | ldAIndC => exact roundTrip_of_plain (op := 0xF2) rfl
  | ldIndCA => exact roundTrip_of_plain (op := 0xE2) rfl
  | ldIndHlIncA => exact roundTrip_of_plain (op := 0x22) rfl
  | ldAIndHlInc => exact roundTrip_of_plain (op := 0x2A) rfl
  | ldIndHlDecA => exact roundTrip_of_plain (op := 0x32) rfl
  | ldAIndHlDec => exact roundTrip_of_plain (op := 0x3A) rfl
  | ldPairImm p nn => exact roundTrip_of_imm16 (baseRow_ldPairImm p) nn
  | ldIndNnSp nn => exact roundTrip_of_imm16 (op := 0x08) rfl nn
  | ldSpHl => exact roundTrip_of_plain (op := 0xF9) rfl
  | ldHlSpE e => exact roundTrip_of_imm8 (op := 0xF8) rfl e
  | pushPair q => exact roundTrip_of_plain (baseRow_pushPair q)
  | popPair q => exact roundTrip_of_plain (baseRow_popPair q)
  | aluReg op src => exact roundTrip_of_plain (baseRow_aluReg op src)
  | aluInd op => exact roundTrip_of_plain (baseRow_aluInd op)
  | aluImm op n => exact roundTrip_of_imm8 (baseRow_aluImm op) n
  | incReg r => exact roundTrip_of_plain (baseRow_incReg r)
  | incIndHl => exact roundTrip_of_plain (op := 0x34) rfl
  | decReg r => exact roundTrip_of_plain (baseRow_decReg r)
  | decIndHl => exact roundTrip_of_plain (op := 0x35) rfl
  | daa => exact roundTrip_of_plain (op := 0x27) rfl
  | cpl => exact roundTrip_of_plain (op := 0x2F) rfl
  | scf => exact roundTrip_of_plain (op := 0x37) rfl
  | ccf => exact roundTrip_of_plain (op := 0x3F) rfl
  | addHlPair p => exact roundTrip_of_plain (baseRow_addHlPair p)
  | incPair p => exact roundTrip_of_plain (baseRow_incPair p)
  | decPair p => exact roundTrip_of_plain (baseRow_decPair p)
  | addSpE e => exact roundTrip_of_imm8 (op := 0xE8) rfl e
  | rlca => exact roundTrip_of_plain (op := 0x07) rfl
  | rrca => exact roundTrip_of_plain (op := 0x0F) rfl
  | rla => exact roundTrip_of_plain (op := 0x17) rfl
  | rra => exact roundTrip_of_plain (op := 0x1F) rfl
  | cbRot op t => exact roundTrip_of_cb (decodeCb_cbRot op t)
  | cbBit b t => exact roundTrip_of_cb (decodeCb_cbCode 1 b t)
  | cbRes b t => exact roundTrip_of_cb (decodeCb_cbCode 2 b t)
  | cbSet b t => exact roundTrip_of_cb (decodeCb_cbCode 3 b t)
  | jpNn nn => exact roundTrip_of_imm16 (op := 0xC3) rfl nn
  | jpCond cc nn => exact roundTrip_of_imm16 (baseRow_jpCond cc) nn
  | jpHl => exact roundTrip_of_plain (op := 0xE9) rfl
  | jrE e => exact roundTrip_of_imm8 (op := 0x18) rfl e
  | jrCond cc e => exact roundTrip_of_imm8 (baseRow_jrCond cc) e
  | callNn nn => exact roundTrip_of_imm16 (op := 0xCD) rfl nn
  | callCond cc nn => exact roundTrip_of_imm16 (baseRow_callCond cc) nn
  | ret => exact roundTrip_of_plain (op := 0xC9) rfl
  | retCond cc => exact roundTrip_of_plain (baseRow_retCond cc)
  | reti => exact roundTrip_of_plain (op := 0xD9) rfl
  | rst k => exact roundTrip_of_plain (baseRow_rst k)
  | nop => exact roundTrip_of_plain (op := 0x00) rfl
  | stop => exact roundTrip_stop
  | halt => exact roundTrip_of_plain (op := 0x76) rfl
  | di => exact roundTrip_of_plain (op := 0xF3) rfl
  | ei => exact roundTrip_of_plain (op := 0xFB) rfl
  | prefixCb => exact roundTrip_prefixCb
  | illegal op => exact roundTrip_illegal op

/-- Settles O2: the round trip of every instruction by its form. -/
theorem decodeInvertsEncode : Obligations.DecodeInvertsEncode := roundTrip

/-! ### From bytes to an instruction and back -/

/-- What O3 says of an instruction that a table row makes: its bytes come back, and it is not STOP. -/
theorem encode_of_ordinary {i : Instr} {bytes head rest : List Byte} (h : i.Ordinary head)
    (hbytes : bytes = head ++ rest) :
    (i ≠ .stop → bytes = encode i ++ rest) ∧ (i = .stop → bytes.head? = some 0x10 ∧ rest = bytes.drop 2) :=
  ⟨fun _ => by rw [hbytes, h.encoded], fun hstop => absurd hstop h.notStop⟩

/-- Settles O3: the row of the first byte encodes what it makes; STOP's row leaves its second byte open. -/
theorem encodeInvertsDecode : Obligations.EncodeInvertsDecode := by
  intro bytes rest i h
  refine ⟨wellFormed_of_decode h, ?_⟩
  cases bytes with
  | nil => cases h
  | cons op tail =>
    cases hrow : baseRow op <;> simp only [decode, hrow] at h
    case plain =>
      cases h
      exact encode_of_ordinary (ordinary_of_plain hrow) rfl
    case imm8 mk =>
      rcases tail with _ | ⟨n, _⟩ <;> cases h
      exact encode_of_ordinary (ordinary_of_imm8 hrow n) rfl
    case imm16 mk =>
      rcases tail with _ | ⟨lo, _ | ⟨hi, _⟩⟩ <;> cases h
      have hword := ordinary_of_imm16 hrow (joinBytes hi lo)
      rw [loByte_joinBytes, hiByte_joinBytes] at hword
      exact encode_of_ordinary hword rfl
    case stop =>
      cases h
      exact ⟨fun hne => absurd rfl hne, fun _ => ⟨congrArg some (op_of_stop hrow), rfl⟩⟩
    case cb =>
      have hop := op_of_cb hrow
      rcases tail with _ | ⟨sub, _⟩ <;> cases h
      · exact ⟨fun _ => by rw [hop]; rfl, nofun⟩
      · exact encode_of_ordinary (decodeCb_encodes sub) (by rw [hop]; rfl)

/-- Settles O1: the eighteen words, each decoded. -/
theorem wordsDecodeAsTheGridsSay : Obligations.WordsDecodeAsTheGridsSay :=
  ⟨rfl, rfl, rfl, rfl, rfl, rfl, rfl, rfl, rfl, rfl, rfl, rfl, rfl, rfl, rfl, rfl, rfl, rfl⟩

end Sys2Proof.Machine
end

section
/-! PROOFS. The step from the bytes at PC (30_encoding.md R119-R122): it runs the instruction that they decode to, the CB
byte runs the rule of its sub-opcode (46_system.md R265), fetches fault in order, and which states have a step. -/

namespace Sys2Proof.Machine

open Sys2Proof.Claims

/-! ### The decoded instruction -/

/-- Where the bytes after a fetched opcode complete an instruction, the operand fetches read that instruction. -/
theorem fetchOperands_of_decode {s : State} {op : Byte} {tail : List Byte} {i : Instr}
    (h : decode (op :: tail) = .ok (i, [])) (hne : i ≠ .prefixCb)
    (hread : ∀ k b, (op :: tail)[k]? = some b → busRead s (s.pc + BitVec.ofNat 16 k) = .ok b) :
    fetchOperands s op = .ok i := by
  cases hrow : baseRow op <;> simp only [decode, hrow] at h <;> simp only [fetchOperands, hrow]
  case plain => cases h; rfl
  case imm8 mk =>
    rcases tail with _ | ⟨n, _⟩ <;> cases h
    have hn : busRead s (s.pc + 1) = .ok n := hread 1 n rfl
    simp only [hn]
  case imm16 mk =>
    rcases tail with _ | ⟨lo, _ | ⟨hi, _⟩⟩ <;> cases h
    have hlo : busRead s (s.pc + 1) = .ok lo := hread 1 lo rfl
    have hhi : busRead s (s.pc + 2) = .ok hi := hread 2 hi rfl
    simp only [hlo, hhi]
  case stop => rw [(Prod.mk.inj (Except.ok.inj h)).1]
  case cb =>
    rcases tail with _ | ⟨sub, _⟩ <;> cases h
    · exact absurd rfl hne
    · have hsub : busRead s (s.pc + 1) = .ok sub := hread 1 sub rfl
      simp only [hsub]

/-- A step that reads its whole instruction runs it. -/
theorem step_of_fetchOperands {s : State} {op : Byte} {i : Instr} (hn : noStep s = none) (hop : busRead s s.pc = .ok op)
    (hi : fetchOperands (setCurrentOp s op) op = .ok i) : step s = exec i (setCurrentOp s op) := by
  rw [step_of_opcode hn hop, hi]

theorem fetchOperands_cb_ok {s : State} {sub : Byte} (h : busRead s (s.pc + 1) = .ok sub) :
    fetchOperands s 0xCB = .ok (decodeCb sub) := by
  have hrow : baseRow 0xCB = .cb := rfl
  simp only [fetchOperands, hrow, h]

theorem fetchOperands_cb_error {s : State} {e : BusFault} (h : busRead s (s.pc + 1) = .error e) :
    fetchOperands s 0xCB = .ok .prefixCb := by
  have hrow : baseRow 0xCB = .cb := rfl
  simp only [fetchOperands, hrow, h]

/-- Settles O6: the operand fetches read what decodes (`fetchOperands_of_decode`); STOP has none, and a CB byte whose
sub-opcode cannot be read is left to the handler of R265. -/
theorem stepRunsTheDecodedInstruction : Obligations.StepRunsTheDecodedInstruction := by
  refine ⟨fun s bytes i hn hdec hne hread => ?_, fun s hn hop => step_of_fetchOperands hn hop rfl,
    fun s e hn hop he => step_of_fetchOperands hn hop (fetchOperands_cb_error he)⟩
  cases bytes with
  | nil => cases hdec
  | cons op tail =>
    have hop : busRead s s.pc = .ok op := by simpa only [BitVec.ofNat_eq_ofNat, BitVec.add_zero] using hread 0 op rfl
    exact step_of_fetchOperands hn hop
      (fetchOperands_of_decode hdec hne fun k b hk => (busRead_setCurrentOp s op _).trans (hread k b hk))

/-! ### PREFIX CB -/

/-- An operand written is a register or the byte at HL, and PC stays. -/
theorem targetWritten_pc {s u : State} {v : Byte} {t : Target} (h : targetWritten s v t = .ok u) : u.pc = s.pc := by
  cases t with
  | reg r => cases h; exact setReg8_pc s r v
  | indHl => exact busWrite_pc h

theorem rotateTarget_next {s t : State} {op : RotOp} {r : Target} :
    rotateTarget s op r = .next t ↔ ∃ v u, targetByte s r = .ok v ∧
      targetWritten s (rotResult op v (flagOf s.f .c)).1 r = .ok u ∧
      t = advance (withFlags u (rotFlags (rotResult op v (flagOf s.f .c)))) 2 := by
  simp only [rotateTarget, readTarget_next, writeTarget_next, finish_next, exists_and_left]

theorem bitTarget_next {s t : State} {b : BitVec 3} {r : Target} :
    bitTarget s b r = .next t ↔ ∃ v, targetByte s r = .ok v ∧ t = advance (withFlags s (bitFlags v b)) 2 := by
  simp only [bitTarget, readTarget_next, finish_next]

theorem resTarget_next {s t : State} {b : BitVec 3} {r : Target} :
    resTarget s b r = .next t ↔ ∃ v u, targetByte s r = .ok v ∧ targetWritten s (resetBit v b) r = .ok u ∧
      t = advance u 2 := by
  simp only [resTarget, readTarget_next, writeTarget_next, finish_next, exists_and_left]

theorem setTarget_next {s t : State} {b : BitVec 3} {r : Target} :
    setTarget s b r = .next t ↔ ∃ v u, targetByte s r = .ok v ∧ targetWritten s (setBit v b) r = .ok u ∧
      t = advance u 2 := by
  simp only [setTarget, readTarget_next, writeTarget_next, finish_next, exists_and_left]

/-- A rule of the CB table that completes leaves PC after its two bytes. -/
theorem runCb_next_pc {s t : State} {sub : Byte} (h : runCb s sub = .next t) : t.pc = s.pc + 2 := by
  unfold runCb pick4 at h
  dsimp only at h
  split at h
  · obtain ⟨v, u, -, hu, rfl⟩ := rotateTarget_next.1 h
    rw [advance_pc, withFlags_pc, targetWritten_pc hu]
  · obtain ⟨v, -, rfl⟩ := bitTarget_next.1 h
    rfl
  · obtain ⟨v, u, -, hu, rfl⟩ := resTarget_next.1 h
    rw [advance_pc, targetWritten_pc hu]
  · obtain ⟨v, u, -, hu, rfl⟩ := setTarget_next.1 h
    rw [advance_pc, targetWritten_pc hu]

/-- With a register operand a rule of the CB table makes no access, so it completes. -/
theorem runCb_reg_completes (s : State) {sub : Byte} {r : Reg8} (h : targetOf (sub.extractLsb' 0 3) = .reg r) :
    ∃ t, runCb s sub = .next t := by
  unfold runCb pick4
  simp only [h]
  split <;> exact ⟨_, rfl⟩

/-- The operand that field `r` of a byte names, by its code (R102). -/
theorem targetOf_of_and_seven {sub : Byte} {r : Reg8} (h : sub &&& 0x07 = regCode r) :
    targetOf (sub.extractLsb' 0 3) = .reg r := by
  have hcode : sub.extractLsb' 0 3 = (Target.reg r).code := by
    calc sub.extractLsb' 0 3 = (sub &&& 0x07).extractLsb' 0 3 := by
          apply BitVec.eq_of_getLsbD_eq
          intro i hi
          interval_cases i <;> simp
      _ = (Target.reg r).code := by rw [h]; cases r <;> rfl
  rw [hcode, targetOf_code]

theorem exec_prefixCb_ok {s : State} {sub : Byte} (h : busRead s (s.pc + 1) = .ok sub) :
    exec .prefixCb s = exec (decodeCb sub) s := by
  rw [exec_prefixCb, dispatchPrefix, readThen_ok h, exec_decodeCb]

theorem exec_prefixCb_error {s : State} {e : BusFault} (h : busRead s (s.pc + 1) = .error e) :
    exec .prefixCb s = accessFault none s e := by
  rw [exec_prefixCb, dispatchPrefix, readThen_error h]
  rfl

/-- Every update but a fetch keeps `current_op`. -/
theorem kept_currentOp (op : Byte) : Kept (fun s => s.currentOp = op) (fun s => s.currentOp = op) where
  reg hs r v := (setReg8_currentOp _ r v).trans hs
  flagReg hs _ := hs
  flags hs _ := hs
  sp hs _ := hs
  pc hs _ := hs
  fault hs _ := hs
  write hs hw := by
    obtain ⟨-, -, -, -, -, hop, -⟩ := busWrite_keeps hw
    exact hop.trans hs

/-- An instruction leaves `current_op`. -/
theorem exec_currentOp (i : Instr) (s : State) :
    endsIn (fun t => t.currentOp = s.currentOp) (fun t => t.currentOp = s.currentOp) (exec i s) :=
  exec_keeps (kept_currentOp s.currentOp) (fun _ _ hs _ => hs) (fun _ _ hs _ => hs) rfl

theorem exec_next_currentOp {i : Instr} {s t : State} (h : exec i s = .next t) : t.currentOp = s.currentOp := by
  have hends := exec_currentOp i s
  rwa [h] at hends

/-- A step that completes ran the instruction it fetched, in the state with `current_op` written. -/
theorem step_next {s t : State} (h : step s = .next t) :
    noStep s = none ∧ ∃ op i, busRead s s.pc = .ok op ∧ fetchOperands (setCurrentOp s op) op = .ok i ∧
      exec i (setCurrentOp s op) = .next t := by
  rcases step_cases s with ⟨o, hn, ho⟩ | ⟨-, f, -, ho⟩ | ⟨hn, op, i, hop, hi, ho⟩
  · have hends : endsIn (fun _ => False) (fun _ => True) o := noStep_endsIn hn
    rw [← ho, h] at hends
    exact hends.elim
  · rw [ho] at h
    cases h
  · exact ⟨hn, op, i, hop, hi, ho ▸ h⟩

/-- A step of the CB byte that completes ran the rule of its sub-opcode. -/
theorem step_cb_next {s t : State} (hop : busRead s s.pc = .ok 0xCB) (h : step s = .next t) :
    ∃ sub, runCb (setCurrentOp s 0xCB) sub = .next t := by
  obtain ⟨hn, op, i, hop', hi, hexec⟩ := step_next h
  cases hop.symm.trans hop'
  cases hsub : busRead (setCurrentOp s 0xCB) ((setCurrentOp s 0xCB).pc + 1) with
  | ok sub =>
    cases (fetchOperands_cb_ok hsub).symm.trans hi
    exact ⟨sub, by rw [← exec_decodeCb, hexec]⟩
  | error e =>
    cases (fetchOperands_cb_error hsub).symm.trans hi
    rw [exec_prefixCb_error hsub] at hexec
    cases hexec

/-- Settles O7: the rows of the CB table by the fields of the sub-opcode, the handler of R265 by its one read, and the step of
a CB byte by what its second fetch reads. -/
theorem prefixDispatchesOnTheSubOpcode : Obligations.PrefixDispatchesOnTheSubOpcode := by
  refine ⟨decodeCb_cbRot, fun b t => ?_, fun b t => ?_, fun b t => ?_, fun sub => encodedAs_of_decodeCb rfl,
    fun s sub h => exec_prefixCb_ok h, fun s e h => exec_prefixCb_error h,
    fun s sub hn hop hsub => step_of_fetchOperands hn hop (fetchOperands_cb_ok hsub), fun s e hn hop he => ?_,
    fun s t hop h => ?_, fun s sub r hsub hr => ?_⟩
  · exact cbCode_eq_add 1 b t ▸ decodeCb_cbCode 1 b t
  · exact cbCode_eq_add 2 b t ▸ decodeCb_cbCode 2 b t
  · exact cbCode_eq_add 3 b t ▸ decodeCb_cbCode 3 b t
  · rw [step_of_fetchOperands hn hop (fetchOperands_cb_error he)]
    exact exec_prefixCb_error (s := setCurrentOp s 0xCB) he
  · obtain ⟨-, op, i, hop', -, hexec⟩ := step_next h
    cases hop.symm.trans hop'
    obtain ⟨sub, hrun⟩ := step_cb_next hop h
    exact ⟨exec_next_currentOp hexec, runCb_next_pc (s := setCurrentOp s 0xCB) hrun⟩
  · obtain ⟨t, ht⟩ := runCb_reg_completes s (targetOf_of_and_seven hr)
    exact ⟨t, by rw [exec_prefixCb_ok hsub, exec_decodeCb, ht], runCb_next_pc ht⟩

/-! ### Faults of the fetch -/

theorem baseRow_of_one_operand {op : Byte} (h : op ∈ opcodesWithOneOperand) : ∃ mk, baseRow op = .imm8 mk := by
  simp only [opcodesWithOneOperand, List.mem_cons, List.not_mem_nil, or_false] at h
  rcases h with rfl | rfl | rfl | rfl | rfl | rfl | rfl | rfl | rfl | rfl | rfl | rfl | rfl | rfl | rfl | rfl | rfl | rfl |
    rfl | rfl | rfl | rfl | rfl | rfl | rfl <;> exact ⟨_, rfl⟩

theorem baseRow_of_two_operands {op : Byte} (h : op ∈ opcodesWithTwoOperands) : ∃ mk, baseRow op = .imm16 mk := by
  simp only [opcodesWithTwoOperands, List.mem_cons, List.not_mem_nil, or_false] at h
  rcases h with rfl | rfl | rfl | rfl | rfl | rfl | rfl | rfl | rfl | rfl | rfl | rfl | rfl | rfl | rfl | rfl | rfl <;>
    exact ⟨_, rfl⟩

/-- Settles O8: the fault of the opcode fetch, and the operand fetches by the rows of the listed opcodes. -/
theorem fetchFaultsInOrder : Obligations.FetchFaultsInOrder := by
  refine ⟨fun s e hn he => ?_, fun op hop => ?_, fun op hop => ?_⟩
  · simp only [step, hn, fetch, he]
  · obtain ⟨mk, hrow⟩ := baseRow_of_one_operand hop
    exact operandFaults_of_imm8 hrow
  · obtain ⟨mk, hrow⟩ := baseRow_of_two_operands hop
    exact operandFaults_of_imm16 hrow

/-! ### The checks before the fetch -/

/-- A Running state without a fault record has a step unless an interrupt would be taken (60_exceptions.md R311). -/
theorem noStep_running {s : State} (hr : s.run = .running) (hf : s.fault = none) :
    noStep s = if interruptWouldBeTaken s then some (.refused .interruptWouldBeTaken) else none := by
  simp only [noStep, hr, hf]

/-- Settles O10: the interrupt check read off `noStep_running`. -/
theorem interruptPolicyIsCheckedBeforeTheFetch : Obligations.InterruptPolicyIsCheckedBeforeTheFetch := by
  refine ⟨fun s hr hf hp => ?_, fun s hr hf hp => ⟨fun hpending => ?_, fun hnone => ?_⟩⟩
  · have hcheck : interruptWouldBeTaken s = false := by simp [interruptWouldBeTaken, hp]
    rw [noStep_running hr hf, hcheck]
    rfl
  · have hcheck : interruptWouldBeTaken s = true := by simpa [interruptWouldBeTaken, pendingInterrupts, hp] using hpending
    simp only [step, noStep_running hr hf, hcheck, if_true]
  · have hcheck : interruptWouldBeTaken s = false := by simpa [interruptWouldBeTaken, pendingInterrupts, hp] using hnone
    rw [noStep_running hr hf, hcheck]
    rfl

/-! ### The run state and the fault record -/

/-- Every update but a write of the run state keeps a running state without a record running and without one; a fault writes
the record. -/
theorem kept_running : Kept (fun s => s.run = .running ∧ s.fault = none) (fun s => s.run = .running ∧ s.fault ≠ none) where
  reg hs r v := ⟨(setReg8_run _ r v).trans hs.1, (setReg8_fault _ r v).trans hs.2⟩
  flagReg hs _ := hs
  flags hs _ := hs
  sp hs _ := hs
  pc hs _ := hs
  fault hs _ := ⟨hs.1, nofun⟩
  write hs hw := by
    obtain ⟨-, -, -, -, -, -, hrun, hfault, -⟩ := busWrite_keeps hw
    exact ⟨hrun.trans hs.1, hfault.trans hs.2⟩

/-- The run state an instruction leaves when it completes. -/
def runAfter (i : Instr) : RunState := if i = .halt then .halted else if i = .stop then .stopped else .running

/-- HALT and STOP alone leave the Running state, and they never fault (46_system.md R261, R262). -/
theorem exec_run (i : Instr) {s : State} (hrun : s.run = .running) (hfault : s.fault = none) :
    endsIn (fun t => t.run = runAfter i ∧ t.fault = none) (fun t => t.run = .running ∧ t.fault ≠ none) (exec i s) := by
  by_cases hhalt : i = .halt
  · subst hhalt
    rw [exec_halt, halt]
    split
    · trivial
    · exact ⟨rfl, hfault⟩
  · by_cases hstop : i = .stop
    · subst hstop
      exact ⟨rfl, hfault⟩
    · rw [runAfter, if_neg hhalt, if_neg hstop]
      exact exec_keeps kept_running (fun _ _ hs _ => hs) (fun hi => (hi.elim hhalt hstop).elim) ⟨hrun, hfault⟩

/-- An instruction that its opcode alone selects is fetched with that opcode and no other. -/
theorem fetched_iff {s : State} {op k : Byte} {i j : Instr} (h : fetchOperands s op = .ok i)
    (henc : (encode j).head? = some k) (hj : ∀ s, fetchOperands s k = .ok j) : i = j ↔ op = k := by
  refine ⟨fun hij => ?_, fun hop => ?_⟩
  · rw [hij] at h
    exact Option.some.inj ((fetchOperands_head h).symm.trans henc)
  · rw [hop, hj] at h
    exact (Except.ok.inj h).symm

/-- The opcodes 0x76 and 0x10 are HALT's and STOP's alone. -/
theorem runAfter_fetched {s : State} {op : Byte} {i : Instr} (h : fetchOperands s op = .ok i) :
    (runAfter i = .halted ↔ op = 0x76) ∧ (runAfter i = .stopped ↔ op = 0x10) := by
  rw [← fetched_iff (j := .halt) h rfl fun _ => rfl, ← fetched_iff (j := .stop) h rfl fun _ => rfl, runAfter]
  split_ifs <;> simp_all

/-- A fault of the spec that ends a step leaves a record in a Running state. -/
theorem step_fault_leaves (s : State) : endsIn (fun _ => True) (fun t => t.run = .running ∧ t.fault ≠ none) (step s) := by
  rcases step_cases s with ⟨o, hn, ho⟩ | ⟨hn, f, hf, ho⟩ | ⟨hn, op, i, -, -, ho⟩ <;> rw [ho]
  · exact noStep_endsIn hn
  · obtain ⟨hrun, -, -⟩ := noStep_none hn
    rcases fetch_cases s with ⟨e, -, he⟩ | ⟨op, e, -, -, he⟩ | ⟨op, i, -, -, he⟩ <;> rw [he] at hf <;> cases hf
    · exact endsIn_takeFault fun _ => ⟨hrun, nofun⟩
    · exact endsIn_takeFault fun _ => ⟨hrun, nofun⟩
  · obtain ⟨hrun, hfault, -⟩ := noStep_none hn
    have hends := exec_run i (s := setCurrentOp s op) hrun hfault
    cases hexec : exec i (setCurrentOp s op) <;> rw [hexec] at hends
    case next => trivial
    case fault => exact hends
    case refused => trivial

/-- Settles O9: the three stops of `noStep`, and the run state and record that the fetched instruction leaves (`exec_run`). -/
theorem runStateAndFaultGateTheStep : Obligations.RunStateAndFaultGateTheStep := by
  refine ⟨fun s r hf => ?_, fun s hf hr => ?_, fun s hf hr => ?_, fun s t h => ?_, fun s left f h hleft => ?_⟩
  · simp only [step, noStep, hf]
  · simp only [step, noStep, hf, hr]
  · simp only [step, noStep, hf, hr]
  · obtain ⟨hn, op, i, hop, hi, hexec⟩ := step_next h
    obtain ⟨hrun, hfault, -⟩ := noStep_none hn
    have hends := exec_run i (s := setCurrentOp s op) hrun hfault
    rw [hexec] at hends
    obtain ⟨htrun, htfault⟩ := hends
    obtain ⟨hhalt, hstop⟩ := runAfter_fetched hi
    rw [hop, htrun, hhalt, hstop, Except.ok.injEq, Except.ok.injEq]
    exact ⟨hrun, hfault, htfault, Iff.rfl, Iff.rfl⟩
  · have hends := step_fault_leaves s
    rw [h] at hends
    exact (hends left hleft).symm

end Sys2Proof.Machine
end

section
/-! PROOFS. The bus (20_memory.md): where each of the eleven ranges of addresses leads, then what a read and a write of it do,
the control writes, and the bulk read. -/

namespace Sys2Proof.Machine

open Sys2Proof.Claims

/-- Settles O23: a read after a write, the canonical form kept, and canonical stores equal by their bytes. -/
theorem storesAreCanonical : Obligations.StoresAreCanonical :=
  ⟨Memory.get_set, fun _ n v h => Memory.set_wf n v h, fun _ _ h h' hget => Memory.ext_of_wf h h' hget⟩

/-! ### The eleven ranges (R51) -/

section
variable {s : State} {address : Word}

theorem place_rom0 (h : address.toNat ≤ 0x3FFF) : place s address = romPlace s address 0 address.toNat := by
  rw [place, if_pos (by omega)]

theorem place_window (h : 0x4000 ≤ address.toNat) (h' : address.toNat ≤ 0x7FFF) :
    place s address = romPlace s address (windowBank s) (address.toNat - 0x4000) := by
  rw [place, if_neg (by omega), if_pos (by omega)]

theorem place_vram (h : 0x8000 ≤ address.toNat) (h' : address.toNat ≤ 0x9FFF) :
    place s address = .ok (.vram (address.toNat - 0x8000)) := by
  rw [place]
  iterate 2 rw [if_neg (by omega)]
  rw [if_pos (by omega)]

theorem place_cram (h : 0xA000 ≤ address.toNat) (h' : address.toNat ≤ 0xBFFF) :
    place s address = cramPlace s address (address.toNat - 0xA000) := by
  rw [place]
  iterate 3 rw [if_neg (by omega)]
  rw [if_pos (by omega)]

theorem place_wram (h : 0xC000 ≤ address.toNat) (h' : address.toNat ≤ 0xDFFF) :
    place s address = .ok (.wram (address.toNat - 0xC000)) := by
  rw [place]
  iterate 4 rw [if_neg (by omega)]
  rw [if_pos (by omega)]

theorem place_echo (h : 0xE000 ≤ address.toNat) (h' : address.toNat ≤ 0xFDFF) :
    place s address = .ok (.wram (address.toNat - 0xE000)) := by
  rw [place]
  iterate 5 rw [if_neg (by omega)]
  rw [if_pos (by omega)]

theorem place_oam (h : 0xFE00 ≤ address.toNat) (h' : address.toNat ≤ 0xFE9F) :
    place s address = .ok (.oam (address.toNat - 0xFE00)) := by
  rw [place]
  iterate 6 rw [if_neg (by omega)]
  rw [if_pos (by omega)]

theorem place_unusable (h : 0xFEA0 ≤ address.toNat) (h' : address.toNat ≤ 0xFEFF) :
    place s address = .error (unusableFault address) := by
  rw [place]
  iterate 7 rw [if_neg (by omega)]
  rw [if_pos (by omega)]
  rfl

theorem place_io (h : 0xFF00 ≤ address.toNat) (h' : address.toNat ≤ 0xFF7F) :
    place s address = .ok (.io (address.toNat - 0xFF00)) := by
  rw [place]
  iterate 8 rw [if_neg (by omega)]
  rw [if_pos (by omega)]

theorem place_hram (h : 0xFF80 ≤ address.toNat) (h' : address.toNat ≤ 0xFFFE) :
    place s address = .ok (.hram (address.toNat - 0xFF80)) := by
  rw [place]
  iterate 9 rw [if_neg (by omega)]
  rw [if_pos (by omega)]

theorem place_ie (h : address.toNat = 0xFFFF) : place s address = .ok .ie := by
  rw [place]
  iterate 10 rw [if_neg (by omega)]

/-! ### The two bank windows (R52, R53, R55, R68) -/

theorem windowBank_eq (s : State) : windowBank s = activeWindow s := rfl

theorem ramBank_eq (s : State) : ramBank s = activeRam s := rfl

theorem cramPlace_disabled (h : s.ramEnabled = false) (offset : Nat) : cramPlace s address offset = .ok .cramDisabled := by
  simp [cramPlace, h]

theorem cramPlace_outside (h : s.ramEnabled = true) {offset : Nat}
    (hout : s.config.ramBankCount ≤ activeRam s ∨ s.config.ramBankSize ≤ offset) :
    cramPlace s address offset =
      .error { kind := .ramBankOutOfRange, address := address, bankOffset := some (activeRam s, offset) } := by
  rw [cramPlace, if_pos h, if_neg (by rw [ramBank_eq]; omega)]
  rfl

theorem cramPlace_inside (h : s.ramEnabled = true) {offset : Nat} (hbank : activeRam s < s.config.ramBankCount)
    (hoffset : offset < s.config.ramBankSize) :
    cramPlace s address offset = .ok (.cram (activeRam s * s.config.ramBankSize + offset)) := by
  rw [cramPlace, if_pos h, if_pos ⟨hbank, hoffset⟩]
  rfl

/-! ### Accesses -/

theorem busRead_of_place {p : Place} (h : place s address = .ok p) : busRead s address = .ok (readPlace s p) := by
  simp only [busRead, h]

theorem busRead_error {e : BusFault} : busRead s address = .error e ↔ place s address = .error e := by
  unfold busRead
  cases place s address <;> simp

theorem busRead_of_romPlace {bank offset : Nat} (h : place s address = romPlace s address bank offset) :
    busRead s address = romBankRead s address bank offset := by
  rw [busRead, h, romPlace, romBankRead]
  by_cases hbank : bank < s.config.romBankCount
  · rw [if_pos hbank, if_neg (by omega)]
    rfl
  · rw [if_neg hbank, if_pos (by omega)]

theorem busWrite_of_place {p : Place} (hdata : 0x8000 ≤ address.toNat) (h : place s address = .ok p) (v : Byte) :
    busWrite s address v = .ok (writePlace s p v) := by
  rw [busWrite, if_neg (by omega), h]

theorem busWrite_of_place_error {e : BusFault} (hdata : 0x8000 ≤ address.toNat) (h : place s address = .error e) (v : Byte) :
    busWrite s address v = .error e := by
  rw [busWrite, if_neg (by omega), h]

theorem busWrite_control (h : address.toNat ≤ 0x7FFF) (v : Byte) :
    busWrite s address v = .ok (controlWrite s address v) := by
  rw [busWrite, if_pos (by omega)]

end

/-- Settles O24: each range by where it leads. -/
theorem readsFollowTheDecodeTable : Obligations.ReadsFollowTheDecodeTable := by
  refine fun s address => ⟨fun h => busRead_of_romPlace (place_rom0 h), fun h h' => busRead_of_romPlace (place_window h h'),
    fun h h' => busRead_of_place (place_vram h h'), fun h h' hoff => busRead_of_place (p := .cramDisabled) ?_,
    fun h h' hon hout => busRead_error.2 ?_, fun h h' hon hbank hoffset => busRead_of_place (p := .cram _) ?_,
    fun h h' => busRead_of_place (place_wram h h'), fun h h' => busRead_of_place (place_echo h h'),
    fun h h' => busRead_of_place (place_oam h h'), fun h h' => busRead_error.2 (place_unusable h h'),
    fun h h' => busRead_of_place (place_io h h'), fun h h' => busRead_of_place (place_hram h h'),
    fun h => busRead_of_place (place_ie h)⟩
  · exact (place_cram h h').trans (cramPlace_disabled hoff _)
  · exact (place_cram h h').trans (cramPlace_outside hon hout)
  · exact (place_cram h h').trans (cramPlace_inside hon hbank hoffset)

/-- Settles O25: each range by where it leads; a control write has no effect under NoBanking. -/
theorem writesFollowTheDecodeTable : Obligations.WritesFollowTheDecodeTable := by
  refine fun s address v => ⟨fun h hc => ?_, fun h h' => busWrite_of_place (by omega) (place_vram h h') v,
    fun h h' hoff => busWrite_of_place (p := .cramDisabled) (by omega) ?_ v,
    fun h h' hon hout => busWrite_of_place_error (by omega) ?_ v,
    fun h h' hon hbank hoffset => busWrite_of_place (p := .cram _) (by omega) ?_ v,
    fun h h' => busWrite_of_place (by omega) (place_wram h h') v, fun h h' => busWrite_of_place (by omega) (place_echo h h') v,
    fun h h' => busWrite_of_place (by omega) (place_oam h h') v,
    fun h h' => busWrite_of_place_error (by omega) (place_unusable h h') v,
    fun h h' => busWrite_of_place (by omega) (place_io h h') v, fun h h' => busWrite_of_place (by omega) (place_hram h h') v,
    fun h => busWrite_of_place (by omega) (place_ie h) v⟩
  · rw [busWrite_control h]
    simp only [controlWrite, hc]
  · exact (place_cram h h').trans (cramPlace_disabled hoff _)
  · exact (place_cram h h').trans (cramPlace_outside hon hout)
  · exact (place_cram h h').trans (cramPlace_inside hon hbank hoffset)

/-! ### Which accesses fault (60_exceptions.md R300) -/

/-- An enabled access past the cartridge RAM store (R55, R68). -/
def RamOutside (s : State) (address : Word) : Prop :=
  0xA000 ≤ address.toNat ∧ address.toNat ≤ 0xBFFF ∧ s.ramEnabled = true ∧
    (s.config.ramBankCount ≤ activeRam s ∨ s.config.ramBankSize ≤ address.toNat - 0xA000)

/-- The ROM window with its bank past the image (R52, R53). -/
def WindowOutside (s : State) (address : Word) : Prop :=
  0x4000 ≤ address.toNat ∧ address.toNat ≤ 0x7FFF ∧ s.config.romBankCount ≤ activeWindow s

/-- The unusable range (R59). -/
def Unusable (address : Word) : Prop := 0xFEA0 ≤ address.toNat ∧ address.toNat ≤ 0xFEFF

/-- What the decode of an address faults on, and the fault, whose bank and offset are there for the two bank faults alone. -/
theorem place_error_cases {s : State} {address : Word} {e : BusFault} (h : place s address = .error e) :
    (Unusable address ∧ e = unusableFault address) ∨ (RamOutside s address ∧ e = ramFault s address) ∨
      ((WindowOutside s address ∨ s.config.romBankCount = 0) ∧
        ∃ bank, e = { kind := .romBankOutOfRange, address := address, bankOffset := some bank }) := by
  unfold place romPlace cramPlace at h
  dsimp only at h
  split_ifs at h with h0 hb h4 hw h8 ha hon hin <;> cases h
  · exact .inr (.inr ⟨.inr (by omega), _, rfl⟩)
  · exact .inr (.inr ⟨.inl ⟨by omega, by omega, by rw [← windowBank_eq]; omega⟩, _, rfl⟩)
  · exact .inr (.inl ⟨⟨by omega, by omega, hon, by rw [← ramBank_eq]; omega⟩, rfl⟩)
  · exact .inl ⟨⟨by omega, by omega⟩, rfl⟩

/-- The fault of an address names it, and it is no illegal opcode (60_exceptions.md R300, R307). -/
theorem place_error {s : State} {address : Word} {e : BusFault} (h : place s address = .error e) :
    e.address = address ∧ e.kind ≠ .illegalOpcode ∧
      (e.bankOffset ≠ none ↔ e.kind = .romBankOutOfRange ∨ e.kind = .ramBankOutOfRange) := by
  rcases place_error_cases h with ⟨-, rfl⟩ | ⟨-, rfl⟩ | ⟨-, bank, rfl⟩
  · exact ⟨rfl, nofun, by simp [unusableFault]⟩
  · exact ⟨rfl, nofun, by simp [ramFault]⟩
  · exact ⟨rfl, nofun, by simp⟩

/-- With fixed ROM in the image the decode faults in these three cases and in no other. -/
theorem place_error_iff {s : State} {address : Word} (hbanks : 2 ≤ s.config.romBankCount) :
    (∃ e, place s address = .error e) ↔ Unusable address ∨ WindowOutside s address ∨ RamOutside s address := by
  constructor
  · rintro ⟨e, he⟩
    rcases place_error_cases he with ⟨h, -⟩ | ⟨h, -⟩ | ⟨h | h, -⟩
    · exact .inl h
    · exact .inr (.inr h)
    · exact .inr (.inl h)
    · omega
  · rintro (⟨h, h'⟩ | ⟨h, h', hout⟩ | ⟨h, h', hon, hout⟩)
    · exact ⟨_, place_unusable h h'⟩
    · rw [place_window h h', romPlace, windowBank_eq, if_neg (by omega)]
      exact ⟨_, rfl⟩
    · exact ⟨_, (place_cram h h').trans (cramPlace_outside hon hout)⟩

theorem place_of_busWrite_error {s : State} {address : Word} {v : Byte} {e : BusFault}
    (h : busWrite s address v = .error e) : place s address = .error e := by
  unfold busWrite at h
  split_ifs at h
  cases hp : place s address <;> rw [hp] at h <;> cases h
  rfl

/-- A write faults where its address is a data address on which the decode faults. -/
theorem busWrite_error_iff {s : State} {address : Word} {v : Byte} {e : BusFault} :
    busWrite s address v = .error e ↔ 0x8000 ≤ address.toNat ∧ place s address = .error e := by
  refine ⟨fun h => ⟨?_, place_of_busWrite_error h⟩, fun ⟨hdata, h⟩ => busWrite_of_place_error hdata h v⟩
  by_contra hlow
  rw [busWrite_control (by omega)] at h
  cases h

/-- Settles O29: a read faults where the decode does (`place_error_iff`), a write where it does from 0x8000 on. -/
theorem accessesFaultExactlyWhere : Obligations.AccessesFaultExactlyWhere := by
  intro s address hbanks
  refine ⟨?_, fun v => ?_⟩
  · simp only [busRead_error]
    exact place_error_iff hbanks
  · simp only [busWrite_error_iff, exists_and_left, place_error_iff hbanks]
    refine ⟨?_, ?_⟩
    · rintro ⟨hdata, h | ⟨-, h', -⟩ | h⟩
      · exact .inl h
      · omega
      · exact .inr h
    · rintro (⟨h, h'⟩ | ⟨h, hrest⟩)
      · exact ⟨by omega, .inl ⟨h, h'⟩⟩
      · exact ⟨by omega, .inr (.inr ⟨h, hrest⟩)⟩

/-! ### The control writes of Banked (R64-R66) -/

/-- 0x0000-0x1FFF enables cartridge RAM exactly if the low nibble is 0xA (R64). -/
theorem controlWrite_ramEnabled {s : State} (hc : s.config.controller = .banked) {address : Word}
    (ha : address.toNat ≤ 0x1FFF) (v : Byte) :
    controlWrite s address v = { s with ramEnabled := decide (v.toNat % 16 = 0x0A) } := by
  have hlow : address.toNat < 0x2000 := by omega
  have henable : ((v &&& 0x0F) == 0x0A) = decide (v.toNat % 16 = 0x0A) := by
    rw [← lowNibble_eq_mod, Bool.eq_iff_iff, beq_iff_eq, decide_eq_true_iff]
    exact BitVec.toNat_eq
  simp only [controlWrite, hc, hlow, if_true, henable]

/-- The low five bits of a byte, 0 read as 1, as a number (R65). -/
theorem romBankSelect_eq_ofNat (v : Byte) :
    romBankSelect v = BitVec.ofNat 5 (if v.toNat % 32 = 0 then 1 else v.toNat % 32) := by
  have hbits : v.extractLsb' 0 5 = BitVec.ofNat 5 (v.toNat % 32) := by
    apply BitVec.eq_of_toNat_eq
    simp only [BitVec.extractLsb'_toNat, BitVec.toNat_ofNat, Nat.shiftRight_zero, Nat.reducePow, Nat.mod_mod]
  have hzero : v.extractLsb' 0 5 = 0 ↔ v.toNat % 32 = 0 := by
    have hnum : (0 : BitVec 5).toNat = 0 := rfl
    rw [hbits, BitVec.toNat_eq, BitVec.toNat_ofNat, hnum]
    omega
  rw [romBankSelect]
  simp only [hzero]
  split
  · rfl
  · exact hbits

/-- 0x2000-0x3FFF selects the ROM bank (R65). -/
theorem controlWrite_romBank {s : State} (hc : s.config.controller = .banked) {address : Word}
    (ha : 0x2000 ≤ address.toNat) (ha' : address.toNat ≤ 0x3FFF) (v : Byte) :
    controlWrite s address v = { s with activeRomBank := romBankSelect v } := by
  have h1 : ¬ address.toNat < 0x2000 := by omega
  have h2 : address.toNat < 0x4000 := by omega
  simp only [controlWrite, hc, h1, h2, if_true, if_false]

/-- 0x4000-0x5FFF selects the RAM bank (R66). -/
theorem controlWrite_ramBank {s : State} (hc : s.config.controller = .banked) {address : Word}
    (ha : 0x4000 ≤ address.toNat) (ha' : address.toNat ≤ 0x5FFF) (v : Byte) :
    controlWrite s address v = { s with activeRamBank := v.extractLsb' 0 2 } := by
  have h1 : ¬ address.toNat < 0x2000 := by omega
  have h2 : ¬ address.toNat < 0x4000 := by omega
  have h3 : address.toNat < 0x6000 := by omega
  simp only [controlWrite, hc, h1, h2, h3, if_true, if_false]

/-- Settles O26: the three control writes, and the window read with the bank that was selected. -/
theorem controlWritesSetTheBankState : Obligations.ControlWritesSetTheBankState := by
  intro s address v hc
  refine ⟨fun h => ?_, fun h h' => ?_, fun h h' => ?_, fun t b h h' hw hb hb' => ?_⟩
  · rw [busWrite_control (by omega), controlWrite_ramEnabled hc h]
  · rw [busWrite_control (by omega), controlWrite_romBank hc h h', romBankSelect_eq_ofNat]
  · rw [busWrite_control (by omega), controlWrite_ramBank hc h h', extractLsb'_zero_two_eq_ofNat]
  · rw [busWrite_control (by omega), controlWrite_romBank hc h h', romBankSelect_eq_ofNat] at hw
    obtain rfl := Except.ok.inj hw
    have hbank : (if v.toNat % 32 = 0 then 1 else v.toNat % 32) < 32 := by split <;> omega
    rw [busRead_of_romPlace (place_window hb hb'), windowBank]
    simp only [hc, BitVec.toNat_ofNat, Nat.reducePow, Nat.mod_eq_of_lt hbank]
    rfl

/-! ### A write and the next read (R76, R78) -/

/-- What every address reads after a write of a data address. -/
theorem busRead_busWrite {s t : State} {address : Word} {v : Byte} (h : busWrite s address v = .ok t)
    (hdata : 0x8000 ≤ address.toNat) (b : Word) :
    busRead t b = if place s b = place s address ∧ place s address ≠ .ok .cramDisabled then .ok v else busRead s b := by
  rcases busWrite_cases h with ⟨hlow, -⟩ | ⟨-, p, hp, rfl⟩
  · omega
  · have hwritable : place s address ≠ .ok .cramDisabled ↔ p.writable := by
      rw [hp]
      cases p with
      | rom n => exact absurd (place_rom_low hp) (by omega)
      | _ => simp [Place.writable]
    simp only [busRead, place_writePlace, hwritable]
    rw [hp]
    cases place s b with
    | error e => simp
    | ok q =>
      simp only [readPlace_writePlace, Except.ok.injEq]
      split <;> rfl

/-- Settles O27: what a write keeps and where it stores, what the next read gives, and where the echo leads. -/
theorem aWriteIsSeenByTheNextRead : Obligations.AWriteIsSeenByTheNextRead := by
  refine ⟨fun s t address v h => ?_, fun s k hk => ?_⟩
  · obtain ⟨hreg, hf, hsp, hpc, hime, hop, hrun, hfault, hrom, hconfig⟩ := busWrite_keeps h
    exact ⟨hreg, hf, hsp, hpc, hime, hop, hrun, hfault, hrom, hconfig, busWrite_storesOnlyAt h, busRead_busWrite h⟩
  · have hecho : (BitVec.ofNat 16 (0xE000 + k)).toNat = 0xE000 + k := by rw [BitVec.toNat_ofNat]; omega
    have hwork : (BitVec.ofNat 16 (0xC000 + k)).toNat = 0xC000 + k := by rw [BitVec.toNat_ofNat]; omega
    rw [place_echo (by omega) (by omega), place_wram (by omega) (by omega), hecho, hwork, Nat.add_sub_cancel_left,
      Nat.add_sub_cancel_left]

/-! ### The bulk read (00_scope.md R15) -/

/-- A bulk read that completes has one byte per address, each what a read of it gives. -/
theorem readFrom_ok {s : State} {start count : Nat} {bytes : List Byte} (h : readFrom s start count = .ok bytes) :
    bytes.length = count ∧ ∀ k v, bytes[k]? = some v → busRead s (BitVec.ofNat 16 (start + k)) = .ok v := by
  induction count generalizing start bytes with
  | zero => cases h; exact ⟨rfl, nofun⟩
  | succ count ih =>
    rw [readFrom] at h
    split at h
    · cases h
    next v hv =>
      split at h <;> cases h
      next rest hrest =>
        obtain ⟨hlen, hbytes⟩ := ih hrest
        refine ⟨congrArg (· + 1) hlen, fun k w hk => ?_⟩
        cases k with
        | zero => cases hk; exact hv
        | succ k =>
          have hshift : start + (k + 1) = start + 1 + k := by omega
          rw [hshift]
          exact hbytes k w hk

/-- A bulk read that faults has the fault of an address before which every read completes. -/
theorem readFrom_error {s : State} {start count : Nat} {e : BusFault} (h : readFrom s start count = .error e) :
    ∃ k < count, busRead s (BitVec.ofNat 16 (start + k)) = .error e ∧
      ∀ j < k, ∃ v, busRead s (BitVec.ofNat 16 (start + j)) = .ok v := by
  induction count generalizing start with
  | zero => cases h
  | succ count ih =>
    rw [readFrom] at h
    split at h
    next e' he => cases h; exact ⟨0, by omega, he, nofun⟩
    next v hv =>
      split at h <;> cases h
      next hrest =>
        have hshift : ∀ k, start + 1 + k = start + (k + 1) := fun k => by omega
        obtain ⟨k, hk, hfault, hbefore⟩ := ih hrest
        simp only [hshift] at hfault hbefore
        refine ⟨k + 1, by omega, hfault, fun j hj => ?_⟩
        cases j with
        | zero => exact ⟨v, hv⟩
        | succ j => exact hbefore j (by omega)

/-- Settles O30: the bulk read of a range is that of the number of its addresses. -/
theorem bulkReadIsTheReadDecode : Obligations.BulkReadIsTheReadDecode := by
  intro s start stop hstop
  rw [readRange, min_eq_left hstop]
  refine ⟨fun bytes h => readFrom_ok h, fun e h => ?_⟩
  obtain ⟨k, hk, hfault, hbefore⟩ := readFrom_error h
  exact ⟨k, by omega, hfault, hbefore⟩

/-! ### The unusable range (R59) -/

/-- Settles O28: the decode faults on the range (`place_unusable`), and so does each kind of access. -/
theorem theUnusableRangeFaults : Obligations.TheUnusableRangeFaults := by
  intro s address h h'
  have hplace : place s address = .error (unusableFault address) := place_unusable h h'
  have hread := busRead_error.2 hplace
  refine ⟨hread, busWrite_of_place_error (by omega) hplace, fun hn hpc => ?_, ?_⟩
  · subst hpc
    simp only [step, hn, fetch, hread]
    rfl
  · have hone : min (address.toNat + 1) 0x10000 - address.toNat = 1 := by omega
    rw [readRange, hone, readFrom, BitVec.ofNat_toNat, BitVec.setWidth_eq, hread]

end Sys2Proof.Machine
end

section
/-! PROOFS. What a step leaves, next or faulted: the invariant, ROM and the configuration, `current_op`, and the fault record
(60_exceptions.md R306-R308). -/

namespace Sys2Proof.Machine

open Sys2Proof.Claims

/-! ### The invariant, ROM and the configuration -/

theorem setReg8_inv {s : State} (h : s.Inv) (r : Reg8) (v : Byte) : (setReg8 s r v).Inv := by
  cases r <;> exact { h with }

/-- F's low nibble is cleared by every write of F (10_state.md R23). -/
theorem flag_mask_low (v : Byte) : v &&& 0xF0 &&& 0x0F = 0 := by
  rw [BitVec.and_assoc]
  exact BitVec.and_zero

theorem kept_inv : Kept State.Inv State.Inv where
  reg h r v := setReg8_inv h r v
  flagReg h v := { h with flagsLow := flag_mask_low v }
  flags h u := { h with flagsLow := (updateFlags_low _ u).trans h.flagsLow }
  sp h _ := { h with }
  pc h _ := { h with }
  fault h _ := { h with }
  write h hw := busWrite_inv hw h

/-- Settles O18: every update a step makes keeps the invariant (`kept_inv`). -/
theorem stepKeepsInv : Obligations.StepKeepsInv := fun _ h =>
  step_keeps kept_inv (fun h _ => { h with }) (fun h _ => { h with }) (fun h _ => { h with }) h

/-- Every update an instruction makes keeps ROM and the configuration. -/
theorem kept_rom_config (rom : Memory) (config : Config) :
    Kept (fun s => s.rom = rom ∧ s.config = config) (fun s => s.rom = rom ∧ s.config = config) where
  reg h r v := ⟨(setReg8_rom _ r v).trans h.1, (setReg8_config _ r v).trans h.2⟩
  flagReg h _ := h
  flags h _ := h
  sp h _ := h
  pc h _ := h
  fault h _ := h
  write h hw := by
    obtain ⟨-, -, -, -, -, -, -, -, hrom, hconfig⟩ := busWrite_keeps hw
    exact ⟨hrom.trans h.1, hconfig.trans h.2⟩

/-- Settles O19: every update a step makes keeps both (`kept_rom_config`). -/
theorem stepKeepsRomAndConfiguration : Obligations.StepKeepsRomAndConfiguration := fun s =>
  step_keeps (kept_rom_config s.rom s.config) (fun h _ => h) (fun h _ => h) (fun h _ => h) ⟨rfl, rfl⟩

/-! ### `current_op` -/

theorem controlWrite_withoutOpcode (s : State) (address : Word) (v : Byte) :
    controlWrite (withoutOpcode s) address v = withoutOpcode (controlWrite s address v) := by
  have hc : (withoutOpcode s).config = s.config := rfl
  simp only [controlWrite, hc]
  split
  · rfl
  · split_ifs <;> rfl

theorem busRead_withoutOpcode (s : State) (address : Word) : busRead (withoutOpcode s) address = busRead s address := by
  have hplace : place (withoutOpcode s) address = place s address := rfl
  rw [busRead, busRead, hplace]
  cases place s address with
  | ok p => exact congrArg Except.ok (by cases p <;> rfl)
  | error e => rfl

/-- A bus write does the same whatever `current_op` and the record's opcode are, and leaves them. -/
theorem busWrite_withoutOpcode (s : State) (address : Word) (v : Byte) :
    busWrite (withoutOpcode s) address v = (busWrite s address v).map withoutOpcode := by
  have hplace : place (withoutOpcode s) address = place s address := rfl
  rw [busWrite, busWrite, hplace, controlWrite_withoutOpcode]
  split
  · rfl
  · cases place s address with
    | ok p => exact congrArg Except.ok (by cases p <;> rfl)
    | error e => rfl

theorem withoutOpcode_twice (s : State) : withoutOpcode (withoutOpcode s) = withoutOpcode s := by
  cases hf : s.fault <;> simp [withoutOpcode, hf]

/-- No shared operation reads `current_op` or the record's opcode but to write a record's opcode. -/
theorem unseen_withoutOpcode : Unseen withoutOpcode where
  reg hst r := eq_of_image_eq withoutOpcode (reg8 · r) (fun _ => by cases r <;> rfl) hst
  flagByte := eq_of_image_eq withoutOpcode State.f fun _ => rfl
  sp := eq_of_image_eq withoutOpcode State.sp fun _ => rfl
  pc := eq_of_image_eq withoutOpcode State.pc fun _ => rfl
  config := eq_of_image_eq withoutOpcode State.config fun _ => rfl
  pending := eq_of_image_eq withoutOpcode pendingInterrupts fun _ => rfl
  bus hst address := eq_of_image_eq withoutOpcode (busRead · address) (busRead_withoutOpcode · address) hst
  write hst address v := eq_of_image_eq withoutOpcode (fun s => (busWrite s address v).map withoutOpcode) (fun s => by
    rw [busWrite_withoutOpcode]
    cases busWrite s address v with
    | ok t => exact congrArg Except.ok (withoutOpcode_twice t)
    | error e => rfl) hst
  setReg hst r v := eq_of_image_eq withoutOpcode (fun s => withoutOpcode (setReg8 s r v)) (fun s => by
    have h : setReg8 (withoutOpcode s) r v = withoutOpcode (setReg8 s r v) := by cases r <;> rfl
    rw [h, withoutOpcode_twice]) hst
  setFlagByte hst v := eq_of_image_eq withoutOpcode (fun s => withoutOpcode (setF s v))
    (fun s => withoutOpcode_twice (setF s v)) hst
  setFlags hst u := eq_of_image_eq withoutOpcode (fun s => withoutOpcode (withFlags s u))
    (fun s => withoutOpcode_twice (withFlags s u)) hst
  setSp hst v := eq_of_image_eq withoutOpcode (fun s => withoutOpcode (setSp s v))
    (fun s => withoutOpcode_twice (setSp s v)) hst
  setPc hst v := eq_of_image_eq withoutOpcode (fun s => withoutOpcode (setPc s v))
    (fun s => withoutOpcode_twice (setPc s v)) hst
  setIme hst on := eq_of_image_eq withoutOpcode (fun s => withoutOpcode (setIme s on))
    (fun s => withoutOpcode_twice (setIme s on)) hst
  setRun hst r := eq_of_image_eq withoutOpcode (fun s => withoutOpcode (setRun s r))
    (fun s => withoutOpcode_twice (setRun s r)) hst
  setOp hst op := eq_of_image_eq withoutOpcode (fun s => withoutOpcode (setCurrentOp s op))
    (fun s => withoutOpcode_twice (setCurrentOp s op)) hst
  setFault hst r := eq_of_image_eq withoutOpcode (fun s => withoutOpcode { s with fault := some r }) (fun _ => rfl) hst
  raised hst sub e := eq_of_image_eq withoutOpcode (fun s => mapOutcome withoutOpcode (raise sub s e)) (fun _ => by
    simp only [raise, mapOutcome_takeFault]; rfl) hst

/-- Every update an instruction makes keeps the fault record. -/
theorem kept_fault (r : Option FaultRecord) : Kept (fun s => s.fault = r) (fun _ => True) where
  reg hs r v := (setReg8_fault _ r v).trans hs
  flagReg hs _ := hs
  flags hs _ := hs
  sp hs _ := hs
  pc hs _ := hs
  fault _ _ := trivial
  write hs hw := by
    obtain ⟨-, -, -, -, -, -, -, hfault, -⟩ := busWrite_keeps hw
    exact hfault.trans hs

/-- An instruction that completes leaves the fault record. -/
theorem exec_next_fault {i : Instr} {s t : State} (h : exec i s = .next t) : t.fault = s.fault := by
  have hends := exec_keeps (kept_fault s.fault) (i := i) (fun _ _ hs _ => hs) (fun _ _ hs _ => hs) (s := s) rfl
  rwa [h] at hends

/-- States alike up to the opcode bytes, with the same fault record, differ in `current_op` alone. -/
theorem eq_setCurrentOp_of_withoutOpcode {t u : State} (h : withoutOpcode t = withoutOpcode u) (hf : t.fault = u.fault) :
    t = setCurrentOp u t.currentOp := by
  cases t
  cases u
  simp_all [withoutOpcode, setCurrentOp]

theorem nextOf_eq_some {o : Result} {t : State} : nextOf o = some t ↔ o = .next t := by
  cases o <;> simp [nextOf]

theorem nextOf_mapOutcome (f : State → State) (o : Result) : nextOf (mapOutcome f o) = (nextOf o).map f := by
  cases o with
  | next t => rfl
  | fault r => cases r <;> rfl
  | refused r => rfl

/-- The next state of an instruction does not depend on `current_op`, which it leaves. -/
theorem nextOf_exec_setCurrentOp (i : Instr) (s : State) (op : Byte) :
    nextOf (exec i (setCurrentOp s op)) = (nextOf (exec i s)).map (setCurrentOp · op) := by
  have halike := congrArg nextOf (exec_alike unseen_withoutOpcode (s := setCurrentOp s op) (t := s) rfl i)
  rw [nextOf_mapOutcome, nextOf_mapOutcome] at halike
  cases ht : nextOf (exec i (setCurrentOp s op)) <;> cases hu : nextOf (exec i s) <;> rw [ht, hu] at halike
  case none.none => rfl
  case none.some => cases halike
  case some.none => cases halike
  case some.some t u =>
    have hexec := nextOf_eq_some.1 ht
    have hfault : t.fault = u.fault := (exec_next_fault hexec).trans (exec_next_fault (nextOf_eq_some.1 hu)).symm
    have hop : t.currentOp = op := exec_next_currentOp hexec
    exact congrArg some (hop ▸ eq_setCurrentOp_of_withoutOpcode (Option.some.inj halike) hfault)

/-- A step writes `current_op` before anything reads it, unless its opcode fetch faults. -/
theorem step_setCurrentOp (s : State) (op : Byte) :
    mapOutcome (setCurrentOp · 0) (step (setCurrentOp s op)) = mapOutcome (setCurrentOp · 0) (step s) := by
  have hns : noStep (setCurrentOp s op) = noStep s := rfl
  cases hn : noStep s with
  | some o => simp only [step, hns, hn]
  | none =>
    have hread : busRead (setCurrentOp s op) (setCurrentOp s op).pc = busRead s s.pc := busRead_setCurrentOp s op s.pc
    cases hop : busRead s s.pc with
    | error e =>
      simp only [step, hns, hn, fetch, hread, hop, mapOutcome_takeFault]
      rfl
    | ok b =>
      rw [step_of_opcode (hns.trans hn) (hread.trans hop), step_of_opcode hn hop]
      rfl

/-- Settles O21: the fetch writes the byte it read, the step as `step_setCurrentOp`, and an instruction by itself up to the
opcode bytes, which no shared operation reads (`unseen_withoutOpcode`). -/
theorem currentOpIsWrittenByTheFetchAndSteersNothing : Obligations.CurrentOpIsWrittenByTheFetchAndSteersNothing := by
  refine ⟨fun s t h => ?_, step_setCurrentOp, nextOf_exec_setCurrentOp,
    fun i s op => exec_alike unseen_withoutOpcode (s := setCurrentOp s op) (t := s) rfl i⟩
  obtain ⟨-, op, i, hop, -, hexec⟩ := step_next h
  rw [hop, exec_next_currentOp hexec]
  rfl

/-! ### The fault record -/

/-- Settles O12: a fault taken is the state before the access with the record written. -/
theorem takingAFaultWritesOnlyTheRecord : Obligations.TakingAFaultWritesOnlyTheRecord :=
  fun _ _ _ _ => ⟨rfl, rfl, rfl, rfl, rfl⟩

/-- A faulting access: the decode faults on the address of the fault, or it is the illegal opcode's (R301). -/
def Faulting (s : State) (e : BusFault) : Prop := place s e.address = .error e ∨ e = illegalOpcodeFault s

theorem faulting_of_place {s : State} {address : Word} {e : BusFault} (h : place s address = .error e) : Faulting s e := by
  obtain ⟨haddress, -⟩ := place_error h
  exact .inl (haddress ▸ h)

/-- The state `u` is reached by the bus writes of a rule that began in `s`. -/
structure Reaches (s u : State) : Prop where
  pc : u.pc = s.pc
  rom : u.rom = s.rom
  config : u.config = s.config
  currentOp : u.currentOp = s.currentOp

theorem Reaches.refl (s : State) : Reaches s s := ⟨rfl, rfl, rfl, rfl⟩

theorem Reaches.write {s u t : State} {address : Word} {v : Byte} (hu : Reaches s u) (h : busWrite u address v = .ok t) :
    Reaches s t := by
  obtain ⟨-, -, -, hpc, -, hop, -, -, hrom, hconfig⟩ := busWrite_keeps h
  exact ⟨hpc.trans hu.pc, hrom.trans hu.rom, hconfig.trans hu.config, hop.trans hu.currentOp⟩

/-- Every fault of an outcome is taken, with the sub-opcode `sub`, at an access of the rule that began in `s`. -/
def FaultsFrom (s : State) (sub : Option Byte) (o : Result) : Prop :=
  ∀ f, o = .fault f → ∃ u e, f = takeFault (some s.currentOp) sub u e ∧ Reaches s u ∧ Faulting u e

namespace FaultsFrom

variable {s u : State} {sub : Option Byte}

theorem next (s t : State) (sub : Option Byte) : FaultsFrom s sub (.next t) := fun _ h => by cases h

theorem raise (hu : Reaches s u) {address : Word} {e : BusFault} (h : place u address = .error e) :
    FaultsFrom s sub (raise sub u e) := fun f hf => by
  obtain rfl := Host.Outcome.fault.inj hf
  exact ⟨u, e, by rw [hu.currentOp], hu, faulting_of_place h⟩

theorem read (hu : Reaches s u) {address : Word} {rest : Byte → Result} (h : ∀ v, FaultsFrom s sub (rest v)) :
    FaultsFrom s sub (readThen sub u address rest) := by
  cases hread : busRead u address with
  | ok v => exact readThen_ok hread ▸ h v
  | error e => exact readThen_error hread ▸ raise hu (busRead_error.1 hread)

theorem store (hu : Reaches s u) {address : Word} {v : Byte} {rest : State → Result}
    (h : ∀ t, Reaches s t → FaultsFrom s sub (rest t)) : FaultsFrom s sub (writeThen sub u address v rest) := by
  cases hwrite : busWrite u address v with
  | ok t => exact writeThen_ok hwrite ▸ h t (hu.write hwrite)
  | error e => exact writeThen_error hwrite ▸ raise hu (place_of_busWrite_error hwrite)

theorem push (v : Word) {rest : State → Result} (h : ∀ t, FaultsFrom s none (rest t)) :
    FaultsFrom s none (push16 s v rest) :=
  store (.refl s) fun _ hu => store hu fun _ _ => h _

theorem pop {rest : State → Word → Result} (h : ∀ t v, FaultsFrom s none (rest t v)) :
    FaultsFrom s none (pop16 s rest) :=
  read (.refl s) fun _ => read (.refl s) fun _ => h _ _

theorem readOperand {t : Target} {rest : Byte → Result} (h : ∀ v, FaultsFrom s sub (rest v)) :
    FaultsFrom s sub (readTarget sub s t rest) := by
  cases t with
  | reg r => exact h _
  | indHl => exact read (.refl s) h

theorem writeOperand {t : Target} {v : Byte} {rest : State → Result} (h : ∀ u, FaultsFrom s sub (rest u)) :
    FaultsFrom s sub (writeTarget sub s t v rest) := by
  cases t with
  | reg r => exact h _
  | indHl => exact store (.refl s) fun u _ => h u

theorem aluOn (op : AluOp) (x : Byte) (n : Word) : FaultsFrom s sub (aluOn s op x n) := by
  rw [aluOn_eq]
  exact next _ _ _

theorem call (target length : Word) : FaultsFrom s none (call s target length) := push _ fun _ => next _ _ _

theorem ret : FaultsFrom s none (ret s) := pop fun _ _ => next _ _ _

/-- A rule that is taken or not. -/
theorem ifHolds (c : Bool) {o p : Result} (ho : FaultsFrom s sub o) (hp : FaultsFrom s sub p) :
    FaultsFrom s sub (if c then o else p) := by
  cases c
  · exact hp
  · exact ho

theorem halt : FaultsFrom s sub (halt s) := by
  unfold Sys2Proof.Machine.halt
  split <;> exact fun _ h => by cases h

theorem illegal (op : Byte) (h : s.currentOp = op) : FaultsFrom s none (illegal s op) := fun f hf => by
  obtain rfl := Host.Outcome.fault.inj hf
  exact ⟨s, illegalOpcodeFault s, by rw [h], .refl s, .inr rfl⟩

end FaultsFrom

/-- A sub-opcode is made of its three fields (30_encoding.md R111). -/
theorem cbCode_of_fields (sub : Byte) : ∃ gg y t, cbCode gg y t = sub := by
  have hcode : ∀ k, (targetOf k).code = k := fun k => by
    rcases bits3 k with rfl | rfl | rfl | rfl | rfl | rfl | rfl | rfl <;> rfl
  refine ⟨sub.extractLsb' 6 2, sub.extractLsb' 3 3, targetOf (sub.extractLsb' 0 3), ?_⟩
  rw [cbCode, hcode, BitVec.extractLsb'_append_extractLsb'_eq_extractLsb' (by rfl),
    BitVec.extractLsb'_append_extractLsb'_eq_extractLsb' (by rfl)]
  exact BitVec.extractLsb'_eq_self

theorem rotOf_code (y : BitVec 3) : (rotOf y).code = y := by
  rcases bits3 y with rfl | rfl | rfl | rfl | rfl | rfl | rfl | rfl <;> rfl

theorem FaultsFrom.rotateTarget {s : State} (y : BitVec 3) (t : Target) :
    FaultsFrom s (some (cbCode 0 y t)) (rotateTarget s (rotOf y) t) := by
  unfold Sys2Proof.Machine.rotateTarget
  rw [rotOf_code]
  exact FaultsFrom.readOperand fun _ => FaultsFrom.writeOperand fun _ => FaultsFrom.next _ _ _

theorem FaultsFrom.bitTarget {s : State} (b : BitVec 3) (t : Target) :
    FaultsFrom s (some (cbCode 1 b t)) (bitTarget s b t) := readOperand fun _ => next _ _ _

theorem FaultsFrom.resTarget {s : State} (b : BitVec 3) (t : Target) :
    FaultsFrom s (some (cbCode 2 b t)) (resTarget s b t) := by
  unfold Sys2Proof.Machine.resTarget
  exact readOperand fun _ => writeOperand fun _ => next _ _ _

theorem FaultsFrom.setTarget {s : State} (b : BitVec 3) (t : Target) :
    FaultsFrom s (some (cbCode 3 b t)) (setTarget s b t) := by
  unfold Sys2Proof.Machine.setTarget
  exact readOperand fun _ => writeOperand fun _ => next _ _ _

/-- A rule of the CB table faults with its own sub-opcode in the record. -/
theorem runCb_faults (s : State) (sub : Byte) : FaultsFrom s (some sub) (runCb s sub) := by
  obtain ⟨gg, y, t, rfl⟩ := cbCode_of_fields sub
  have hgroup : gg = 0 ∨ gg = 1 ∨ gg = 2 ∨ gg = 3 := by revert gg; decide
  simp only [runCb, cbCode_group, cbCode_middle, cbCode_operand, targetOf_code]
  rcases hgroup with rfl | rfl | rfl | rfl
  · exact FaultsFrom.rotateTarget y t
  · exact FaultsFrom.bitTarget y t
  · exact FaultsFrom.resTarget y t
  · exact FaultsFrom.setTarget y t

/-- The instructions of the CB table begin with its byte. -/
theorem encode_head_of_cb {sub : Byte} {i : Instr} (h : decodeCb sub = i) : (encode i).head? = some 0xCB := by
  rw [← h, (decodeCb_encodes sub).encoded]
  rfl

open FaultsFrom in
/-- An instruction of the base table faults with no sub-opcode in the record. -/
theorem exec_faults {s : State} {i : Instr} (hop : (encode i).head? = some s.currentOp) (hcb : s.currentOp ≠ 0xCB) :
    FaultsFrom s none (exec i s) := by
  have hbase : (encode i).head? ≠ some 0xCB := fun h => hcb (Option.some.inj (hop.symm.trans h))
  have hm := exec_meaning s i
  generalize exec i s = o at hm
  cases hm with
  | ldRegReg | ldRegImm | ldPairImm | ldSpHl | ldHlSpE | incReg | decReg | daa | cpl | scf | ccf | addHlPair | incPair
  | decPair | addSpE | rlca | rrca | rla | rra | jpNn | jpHl | jrE | nop | stop | di | ei => exact next _ _ _
  | ldRegInd | ldAIndBc | ldAIndDe | ldAIndNn | ldhAIndN | ldAIndC | ldAIndHlInc | ldAIndHlDec =>
    exact read (.refl s) fun _ => next _ _ _
  | ldIndReg | ldIndHlN | ldIndBcA | ldIndDeA | ldIndNnA | ldhIndNA | ldIndCA | ldIndHlIncA | ldIndHlDecA =>
    exact store (.refl s) fun _ _ => next _ _ _
  | ldIndNnSp => exact store (.refl s) fun _ hu => store hu fun _ _ => next _ _ _
  | pushPair => exact push _ fun _ => next _ _ _
  | popPair | reti => exact pop fun _ _ => next _ _ _
  | aluReg op | aluImm op => exact FaultsFrom.aluOn op _ _
  | aluInd op => exact read (.refl s) fun _ => FaultsFrom.aluOn op _ _
  | incIndHl | decIndHl => exact read (.refl s) fun _ => store (.refl s) fun _ _ => next _ _ _
  | jpCond cc | jrCond cc => exact ifHolds _ (next _ _ _) (next _ _ _)
  | callNn | rst => exact FaultsFrom.call _ _
  | callCond cc => exact ifHolds _ (FaultsFrom.call _ _) (next _ _ _)
  | ret => exact FaultsFrom.ret
  | retCond cc => exact ifHolds _ FaultsFrom.ret (next _ _ _)
  | halt => exact FaultsFrom.halt
  | illegal op => exact FaultsFrom.illegal op (Option.some.inj hop).symm
  | cbRot op t => exact absurd (encode_head_of_cb (decodeCb_cbRot op t)) hbase
  | cbBit b t => exact absurd (encode_head_of_cb (decodeCb_cbCode 1 b t)) hbase
  | cbRes b t => exact absurd (encode_head_of_cb (decodeCb_cbCode 2 b t)) hbase
  | cbSet b t => exact absurd (encode_head_of_cb (decodeCb_cbCode 3 b t)) hbase
  | prefixCb => exact absurd rfl hbase

/-- What the record of a faulting step names, and the state `u` in which the access faulted. -/
structure StepFault (s : State) (opcode sub : Option Byte) (u : State) (e : BusFault) : Prop where
  pc : u.pc = s.pc
  rom : u.rom = s.rom
  config : u.config = s.config
  faulting : Faulting u e
  opcode_eq : opcode = readByte s s.pc
  sub_eq : sub = if opcode = some 0xCB then readByte s (s.pc + 1) else none
  unfetched : opcode = none → u = s
  currentOp : ∀ op, opcode = some op → u.currentOp = op

theorem readByte_ok {s : State} {address : Word} {v : Byte} (h : busRead s address = .ok v) : readByte s address = some v := by
  simp only [readByte, h]

theorem readByte_error {s : State} {address : Word} {e : BusFault} (h : busRead s address = .error e) :
    readByte s address = none := by
  simp only [readByte, h]

/-- A fault of an instruction that a step fetched. -/
theorem StepFault.of_reaches {s u : State} {op : Byte} {sub : Option Byte} {e : BusFault} (hop : busRead s s.pc = .ok op)
    (hu : Reaches (setCurrentOp s op) u) (he : Faulting u e)
    (hsub : sub = if op = 0xCB then readByte s (s.pc + 1) else none) : StepFault s (some op) sub u e where
  pc := hu.pc
  rom := hu.rom
  config := hu.config
  faulting := he
  opcode_eq := (readByte_ok hop).symm
  sub_eq := by simpa only [Option.some.injEq] using hsub
  unfetched := nofun
  currentOp _ h := hu.currentOp.trans (Option.some.inj h)

/-- An operand fetch faults at a bus read of an opcode that is not 0xCB. -/
theorem fetchOperands_error {s : State} {op : Byte} {e : BusFault} (h : fetchOperands s op = .error e) :
    op ≠ 0xCB ∧ Faulting s e := by
  refine ⟨fun hop => ?_, ?_⟩
  · subst hop
    cases hsub : busRead s (s.pc + 1) with
    | ok sub => cases (fetchOperands_cb_ok hsub).symm.trans h
    | error e => cases (fetchOperands_cb_error hsub).symm.trans h
  · unfold fetchOperands at h
    split at h
    · cases h
    · split at h <;> cases h
      exact faulting_of_place (busRead_error.1 ‹_›)
    · split at h
      · split at h <;> cases h
        exact faulting_of_place (busRead_error.1 ‹_›)
      · cases h
        exact faulting_of_place (busRead_error.1 ‹_›)
    · cases h
    · split at h <;> cases h

/-- The faults of a fetched instruction: with a sub-opcode only after 0xCB, where it is the second byte, if that one was read. -/
theorem exec_fetched_faults {s : State} {op : Byte} {i : Instr} (hi : fetchOperands (setCurrentOp s op) op = .ok i) :
    FaultsFrom (setCurrentOp s op) (if op = 0xCB then readByte s (s.pc + 1) else none) (exec i (setCurrentOp s op)) := by
  by_cases hcb : op = 0xCB
  · subst hcb
    rw [if_pos rfl]
    cases hsub : busRead (setCurrentOp s 0xCB) (s.pc + 1) with
    | ok sub =>
      cases (fetchOperands_cb_ok (s := setCurrentOp s 0xCB) hsub).symm.trans hi
      rw [busRead_setCurrentOp] at hsub
      rw [exec_decodeCb, readByte_ok hsub]
      exact runCb_faults _ sub
    | error e =>
      cases (fetchOperands_cb_error (s := setCurrentOp s 0xCB) hsub).symm.trans hi
      rw [exec_prefixCb_error (s := setCurrentOp s 0xCB) hsub]
      rw [busRead_setCurrentOp] at hsub
      rw [readByte_error hsub]
      exact FaultsFrom.raise (.refl _) (busRead_error.1 hsub)
  · rw [if_neg hcb]
    exact exec_faults (fetchOperands_head hi) hcb

/-- Every fault of the spec that ends a step is taken, with the record that `StepFault` says. -/
theorem step_fault {s left : State} {f : Fault} (h : step s = .fault f) (hleft : leftBy f = some left) :
    ∃ opcode sub u e, f = takeFault opcode sub u e ∧ StepFault s opcode sub u e := by
  rcases step_cases s with ⟨o, hn, ho⟩ | ⟨-, f', hf, ho⟩ | ⟨-, op, i, hop, hi, ho⟩ <;> rw [h] at ho
  · have hends : endsIn (fun _ => False) (fun _ => False) o := noStep_endsIn hn
    rw [← ho] at hends
    exact (hends left hleft).elim
  · cases ho
    rcases fetch_cases s with ⟨e, he, hfe⟩ | ⟨op, e, hop, he, hfe⟩ | ⟨op, i, -, -, hfe⟩ <;> rw [hf] at hfe <;> cases hfe
    · exact ⟨none, none, s, e, rfl, rfl, rfl, rfl, faulting_of_place (busRead_error.1 he), (readByte_error he).symm, rfl,
        fun _ => rfl, nofun⟩
    · obtain ⟨hcb, hfaulting⟩ := fetchOperands_error he
      exact ⟨some op, none, setCurrentOp s op, e, rfl, .of_reaches hop (.refl _) hfaulting (by rw [if_neg hcb])⟩
  · obtain ⟨u, e, hf, hu, he⟩ := exec_fetched_faults hi f ho.symm
    exact ⟨some op, _, u, e, hf, .of_reaches hop hu he rfl⟩

/-- The address and the bank of a faulting access as the record keeps them. -/
theorem Faulting.record {u : State} {e : BusFault} (h : Faulting u e) :
    (e.kind = .illegalOpcode → e.address = u.pc ∧ e.bankOffset = none) ∧
      (e.kind ≠ .illegalOpcode → place u e.address = .error e) ∧
      (e.bankOffset ≠ none ↔ e.kind = .romBankOutOfRange ∨ e.kind = .ramBankOutOfRange) := by
  rcases h with h | rfl
  · obtain ⟨-, hkind, hbank⟩ := place_error h
    exact ⟨fun hk => absurd hk hkind, fun _ => h, hbank⟩
  · exact ⟨fun _ => ⟨rfl, rfl⟩, fun hk => absurd rfl hk, by simp [illegalOpcodeFault]⟩

/-- Settles O11: the fault of a step is one taken (`step_fault`), and what it leaves is the state before the access with the
record written. -/
theorem aFaultingStepLeavesItsRecord : Obligations.AFaultingStepLeavesItsRecord := by
  intro s left f h hleft
  obtain ⟨opcode, sub, u, e, rfl, hf⟩ := step_fault h hleft
  obtain ⟨hillegal, hplace, hbank⟩ := hf.faulting.record
  rw [leftBy_takeFault] at hleft
  obtain rfl := Option.some.inj hleft
  refine ⟨hf.pc, hf.config, hf.rom, recordOf opcode sub u e, rfl, rfl, hf.pc, hf.opcode_eq, hf.sub_eq, fun hnone => ?_,
    hf.currentOp, fun hk => ?_, hplace, hbank⟩
  · rw [← hf.unfetched hnone]
    rfl
  · rw [← hf.pc]
    exact hillegal hk

end Sys2Proof.Machine
end

section
/-! PROOFS. The cartridge header (20_memory.md R85-R92) and construction (70_reset_and_hazards.md R330-R338): the code tables,
the title, and the initial state. -/

namespace Sys2Proof.Machine

open Sys2Proof.Claims

/-! ### The code tables (R86-R89), each as a lookup in the spec's list -/

theorem controllerKindOf_eq_lookup : ∀ code,
    controllerKindOf code = (controllerCodes.lookup code).getD (.unknown code) :=
  byte_cases fun n hn => by interval_cases n <;> rfl

theorem romSizeOf_eq_lookup : ∀ code,
    romSizeOf code = ((romSizeCodes.lookup code).map RomSize.bytes).getD .unknownMax :=
  byte_cases fun n hn => by interval_cases n <;> rfl

/-- A RAM size code that is not the list's is unknown; code 0 is no RAM, any other is its count and size. -/
theorem ramSpecOf_eq_lookup : ∀ code,
    ramSpecOf code = match ramSizeCodes.lookup code with
      | none => .unknown
      | some (count, size) => if count = 0 then .absent else .banks count size :=
  byte_cases fun n hn => by interval_cases n <;> rfl

/-- The controller each code selects (R89). -/
theorem selectController_eq : ∀ code unsupported,
    selectController (controllerKindOf code) unsupported = controllerFor code unsupported :=
  byte_cases fun n hn => by interval_cases n <;> exact fun _ => rfl

/-- A key that no row has is not found. -/
theorem lookup_eq_none {α : Type} {codes : List (Byte × α)} {code : Byte} (h : code ∉ codes.map Prod.fst) :
    codes.lookup code = none := by
  rw [List.lookup_eq_none_iff]
  exact fun row hrow => bne_iff_ne.2 fun heq => h (heq ▸ List.mem_map_of_mem hrow)

/-- The bank count and size of a RAM size code (R86). -/
theorem ramSpecOf_sizes (code : Byte) :
    RamSpec.bankCount (ramSpecOf code) = (ramSizeOf code).1 ∧ RamSpec.bankSize (ramSpecOf code) = (ramSizeOf code).2 := by
  revert code
  exact byte_cases fun n hn => by interval_cases n <;> exact ⟨rfl, rfl⟩

/-! ### The title (R92) -/

/-- The longest initial part on which a predicate holds: it holds of each element, and not of the first after it. -/
theorem takeWhile_spec {α : Type} (p : α → Bool) (l : List α) :
    (l.takeWhile p).length ≤ l.length ∧
      (∀ k, k < (l.takeWhile p).length → ∃ v, (l.takeWhile p)[k]? = some v ∧ l[k]? = some v ∧ p v) ∧
      (∀ v, l[(l.takeWhile p).length]? = some v → p v = false) := by
  induction l with
  | nil => exact ⟨le_rfl, nofun, nofun⟩
  | cons x l ih =>
    obtain ⟨hlen, hin, hafter⟩ := ih
    by_cases hx : p x
    · rw [List.takeWhile_cons_of_pos hx]
      refine ⟨Nat.succ_le_succ hlen, fun k hk => ?_, hafter⟩
      cases k with
      | zero => exact ⟨x, rfl, rfl, hx⟩
      | succ k => exact hin k (Nat.lt_of_succ_lt_succ hk)
    · rw [List.takeWhile_cons_of_neg hx]
      refine ⟨Nat.zero_le _, nofun, fun v hv => ?_⟩
      cases hv
      exact eq_false_of_ne_true hx

/-- The title is the bytes from 0x134 on up to the first zero byte, at most fifteen. -/
theorem titleOf_spec (image : Image) :
    (titleOf image).length ≤ 15 ∧
      (∀ k, k < (titleOf image).length →
        (titleOf image)[k]? = some (Memory.get image.bytes (0x134 + k)) ∧ Memory.get image.bytes (0x134 + k) ≠ 0) ∧
      ((titleOf image).length < 15 → Memory.get image.bytes (0x134 + (titleOf image).length) = 0) := by
  obtain ⟨hlen, hin, hafter⟩ := takeWhile_spec (fun v : Byte => v != 0)
    ((List.range 15).map fun k => Memory.get image.bytes (0x134 + k))
  have hget : ∀ k, k < 15 → ((List.range 15).map fun k => Memory.get image.bytes (0x134 + k))[k]? =
      some (Memory.get image.bytes (0x134 + k)) := fun k hk => by
    rw [List.getElem?_map, List.getElem?_range hk]
    rfl
  rw [List.length_map, List.length_range] at hlen
  refine ⟨hlen, fun k hk => ?_, fun hshort => ?_⟩
  · obtain ⟨v, htitle, hv, hne⟩ := hin k hk
    rw [hget k (lt_of_lt_of_le hk hlen)] at hv
    obtain rfl := Option.some.inj hv
    exact ⟨htitle, bne_iff_ne.1 hne⟩
  · exact bne_eq_false_iff_eq.1 (hafter _ (hget _ hshort))

/-- Settles O15: the tables by their lookups, the offsets by `parseHeader`, and the title by `titleOf_spec`. -/
theorem headerCodesDecodeByTheTables : Obligations.HeaderCodesDecodeByTheTables := by
  refine ⟨by decide, fun code h => ?_, by decide, fun code h => ?_, ramSpecOf_sizes, fun code h => ?_,
    selectController_eq, fun _ => rfl, fun _ => ⟨rfl, rfl, rfl, rfl⟩, titleOf_spec⟩
  · rw [controllerKindOf_eq_lookup, lookup_eq_none h]
    rfl
  · rw [romSizeOf_eq_lookup, lookup_eq_none h]
    rfl
  · rw [ramSpecOf_eq_lookup, lookup_eq_none h]

/-! ### Construction (70_reset_and_hazards.md R331-R337) -/

theorem construct_badLength {image : Image} (params : Params)
    (h : image.length < 0x8000 ∨ image.length % 0x4000 ≠ 0) : construct image params = .error (.badLength image.length) :=
  if_pos h

theorem construct_eq {image : Image} {params : Params} (h : 0x8000 ≤ image.length) (hmod : image.length % 0x4000 = 0) :
    construct image params =
      match controllerFor (Memory.get image.bytes 0x147) params.unsupportedController with
      | none => .error (.unsupportedController (parseHeader image).kind)
      | some controller => .ok (initialState image params (configOf image params controller)) := by
  have hlen : ¬(image.length < 0x8000 ∨ image.length % Config.romBankSize ≠ 0) := by
    simp only [Config.romBankSize, hmod]
    omega
  rw [construct, if_neg hlen, ← selectController_eq]
  rfl

/-- The configuration of an image with a selected controller, in the spec's terms (R86, R90, R91). -/
theorem configOf_eq (image : Image) (params : Params) (controller : Controller) :
    configOf image params controller =
      { controller := controller
        romBankCount := image.length / 0x4000
        ramBankCount := (ramSizeOf (Memory.get image.bytes 0x149)).1
        ramBankSize := (ramSizeOf (Memory.get image.bytes 0x149)).2
        header := parseHeader image
        disabledRamRead := params.disabledRamRead
        interruptPolicy := params.interruptPolicy } := by
  obtain ⟨hcount, hsize⟩ := ramSpecOf_sizes (Memory.get image.bytes 0x149)
  rw [← hcount, ← hsize]
  rfl

/-- A store restricted to its size has the bytes it was given. -/
theorem get_restrict_inside (m : Memory) {size n : Nat} (h : n < size) :
    Memory.get (Memory.restrict m size) n = Memory.get m n := by
  rw [Memory.get_restrict, if_pos h]

/-- Settles O14: the three outcomes of `construct_eq`, and the fields of the initial state. -/
theorem constructionYieldsTheInitialState : Obligations.ConstructionYieldsTheInitialState := by
  refine fun image params => ⟨construct_badLength params, fun h hmod hnone => ?_, fun controller h hmod hsome => ?_⟩
  · rw [construct_eq h hmod, hnone]
  · refine ⟨initialState image params (configOf image params controller), by rw [construct_eq h hmod, hsome],
      configOf_eq image params controller, rfl, rfl, rfl, rfl, rfl, rfl, rfl, rfl, rfl, rfl, rfl, rfl, rfl, rfl,
      fun hbanked => ?_, fun hnone => ?_, rfl, rfl, rfl, fun n hn => get_restrict_inside _ hn,
      fun n hn => get_restrict_inside _ hn, fun n hn => get_restrict_inside _ hn, fun n hn => get_restrict_inside _ hn,
      fun n hn => get_restrict_inside _ hn, fun n hn => get_restrict_inside _ hn, fun n hn => get_restrict_inside _ hn, rfl⟩
    · subst hbanked
      rfl
    · subst hnone
      obtain ⟨hcount, -⟩ := ramSpecOf_sizes (Memory.get image.bytes 0x149)
      rw [← hcount]
      exact Bool.true_and _

/-- An image that construction accepts has whole banks, at least two. -/
theorem construct_ok {image : Image} {params : Params} {s : State} (h : construct image params = .ok s) :
    0x8000 ≤ image.length ∧ image.length % 0x4000 = 0 ∧
      ∃ controller, s = initialState image params (configOf image params controller) := by
  by_cases hbad : image.length < 0x8000 ∨ image.length % 0x4000 ≠ 0
  · rw [construct_badLength params hbad] at h
    cases h
  · have hlen : 0x8000 ≤ image.length := by omega
    have hmod : image.length % 0x4000 = 0 := by omega
    rw [construct_eq hlen hmod] at h
    split at h <;> cases h
    exact ⟨hlen, hmod, _, rfl⟩

/-- The initial state of an image with whole banks, at least two, meets the invariant. -/
theorem initialState_inv {image : Image} (params : Params) (controller : Controller) (hlen : 0x8000 ≤ image.length)
    (hmod : image.length % 0x4000 = 0) : (initialState image params (configOf image params controller)).Inv where
  flagsLow := flag_mask_low params.initialRegs.f
  romBank := (by decide : (1 : BitVec 5) ≠ 0)
  twoBanks := (Nat.le_div_iff_mul_le (by decide)).2 hlen
  noBanking hc := by
    have hnone : controller = .noBanking := hc
    subst hnone
    exact ⟨Bool.true_and _, rfl, rfl, rfl⟩
  rom := by
    have hwhole : image.length / 0x4000 * 0x4000 = image.length := by omega
    show Memory.Good (Memory.restrict image.bytes image.length) (image.length / 0x4000 * 0x4000)
    rw [hwhole]
    exact Memory.restrict_good _ _
  cram := Memory.restrict_good _ _
  vram := Memory.restrict_good _ _
  wram := Memory.restrict_good _ _
  oam := Memory.restrict_good _ _
  io := Memory.restrict_good _ _
  hram := Memory.restrict_good _ _

/-- Settles O16: what construction yields is an initial state (`construct_ok`), which meets the invariant. -/
theorem constructedMachinesMeetInv : Obligations.ConstructedMachinesMeetInv := by
  intro image params s h
  obtain ⟨hlen, hmod, controller, rfl⟩ := construct_ok h
  exact initialState_inv params controller hlen hmod

/-! ### Reset -/

theorem construct_blank : construct Image.blank Params.default = .ok State.reset := rfl

/-- Settles O17: the reset state is the construction of the blank image. -/
theorem resetMeetsInv : Obligations.ResetMeetsInv :=
  ⟨constructedMachinesMeetInv _ _ _ construct_blank, construct_blank⟩

/-- Settles O13: each field of the reset state, read off. -/
theorem resetValues : Obligations.ResetValues :=
  ⟨rfl, rfl, rfl, rfl, rfl, rfl, rfl, rfl, rfl, rfl⟩

end Sys2Proof.Machine
end

section
/-! PROOFS. Frames (10_state.md section 5): what each update of the state leaves unchanged, that frames compose, and the frame of
every instruction from the updates it makes. -/

namespace Sys2Proof.Machine

open Sys2Proof.Claims

/-! ### Memory -/

/-- Stores one after the other: where the second part's addresses lead as before the first, the bytes of both are all that
changed. -/
theorem storesOnlyAt.trans {first second : List Word} {s t u : State} (h : storesOnlyAt first s t)
    (h' : storesOnlyAt second t u) (hconfig : t.config = s.config)
    (hplace : ∀ a ∈ second, 0x8000 ≤ a.toNat → place t a = place s a) : storesOnlyAt (first ++ second) s u := by
  obtain ⟨hbytes, hdata⟩ := h
  obtain ⟨hbytes', hdata'⟩ := h'
  refine ⟨fun p hp => ?_, fun hall => ?_⟩
  · rw [hbytes' p fun a ha hhigh => hplace a ha hhigh ▸ hp a (List.mem_append_right _ ha) hhigh,
      hbytes p fun a ha => hp a (List.mem_append_left _ ha)]
  · obtain ⟨⟨hram, hrom, hramBank, hmode⟩, hread⟩ := hdata fun a ha => hall a (List.mem_append_left _ ha)
    obtain ⟨⟨hram', hrom', hramBank', hmode'⟩, hread'⟩ := hdata' fun a ha => hall a (List.mem_append_right _ ha)
    have hsame : ∀ a, place t a = place s a := place_congr hconfig hram hrom hramBank
    refine ⟨⟨hram'.trans hram, hrom'.trans hrom, hramBank'.trans hramBank, hmode'.trans hmode⟩, fun b hb => ?_⟩
    rw [hread' b fun a ha => by rw [hsame, hsame]; exact hb a (List.mem_append_right _ ha),
      hread b fun a ha => hb a (List.mem_append_left _ ha)]

/-- Nothing stored after some stores. -/
theorem storesOnlyAt.then_nothing {addresses : List Word} {s t u : State} (h : storesOnlyAt addresses s t)
    (h' : storesNothing t u) (hconfig : t.config = s.config) : storesOnlyAt addresses s u := by
  have hboth := h.trans h' hconfig nofun
  rwa [List.append_nil] at hboth

theorem storesNothing_setReg8 (s : State) (r : Reg8) (v : Byte) : storesNothing s (setReg8 s r v) :=
  ⟨fun p _ => readPlace_setReg8 s r v p, fun _ => ⟨by simp [bankSame], fun b _ => busRead_setReg8 s r v b⟩⟩

theorem storesNothing_withFlags (s : State) (u : FlagUpdate) : storesNothing s (withFlags s u) :=
  ⟨fun p _ => readPlace_withFlags s u p, fun _ => ⟨⟨rfl, rfl, rfl, rfl⟩, fun b _ => busRead_withFlags s u b⟩⟩

theorem storesNothing_setF (s : State) (v : Byte) : storesNothing s (setF s v) :=
  ⟨fun p _ => readPlace_setF s v p, fun _ => ⟨⟨rfl, rfl, rfl, rfl⟩, fun b _ => busRead_setF s v b⟩⟩

theorem storesNothing_setSp (s : State) (v : Word) : storesNothing s (setSp s v) :=
  ⟨fun p _ => readPlace_setSp s v p, fun _ => ⟨⟨rfl, rfl, rfl, rfl⟩, fun b _ => busRead_setSp s v b⟩⟩

theorem storesNothing_setPc (s : State) (v : Word) : storesNothing s (setPc s v) :=
  ⟨fun p _ => readPlace_setPc s v p, fun _ => ⟨⟨rfl, rfl, rfl, rfl⟩, fun b _ => busRead_setPc s v b⟩⟩

theorem storesNothing_setIme (s : State) (on : Bool) : storesNothing s (setIme s on) :=
  ⟨fun p _ => readPlace_setIme s on p, fun _ => ⟨⟨rfl, rfl, rfl, rfl⟩, fun b _ => busRead_setIme s on b⟩⟩

theorem storesNothing_setRun (s : State) (r : RunState) : storesNothing s (setRun s r) :=
  ⟨fun p _ => readPlace_setRun s r p, fun _ => ⟨⟨rfl, rfl, rfl, rfl⟩, fun b _ => busRead_setRun s r b⟩⟩

/-! ### One update -/

/-- The body of `frame` and `frameStoring`: from `s` to `t` nothing changed but PC, the listed registers and flags, SP if
`spToo`, and the bytes behind the addresses. -/
def Within (regs : List Reg8) (flags : List Flag) (spToo : Bool) (addresses : List Word) (s t : State) : Prop :=
  regsSameBut regs s t ∧ flagsSameBut flags s t ∧ (spToo = false → t.sp = s.sp) ∧ controlSame s t ∧
    storesOnlyAt addresses s t

section
variable {regs : List Reg8} {flags : List Flag} {spToo : Bool}

theorem Within.trans {first second : List Word} {s t u : State} (h : Within regs flags spToo first s t)
    (h' : Within regs flags spToo second t u) (hplace : ∀ a ∈ second, 0x8000 ≤ a.toNat → place t a = place s a) :
    Within regs flags spToo (first ++ second) s u := by
  obtain ⟨hregs, ⟨hflags, hlow⟩, hsp, ⟨hime, hrun, hop, hfault, hconfig⟩, hstores⟩ := h
  obtain ⟨hregs', ⟨hflags', hlow'⟩, hsp', ⟨hime', hrun', hop', hfault', hconfig'⟩, hstores'⟩ := h'
  exact ⟨fun r hr => (hregs' r hr).trans (hregs r hr),
    ⟨fun g hg => (hflags' g hg).trans (hflags g hg), hlow'.trans hlow⟩, fun hno => (hsp' hno).trans (hsp hno),
    ⟨hime'.trans hime, hrun'.trans hrun, hop'.trans hop, hfault'.trans hfault, hconfig'.trans hconfig⟩,
    hstores.trans hstores' hconfig hplace⟩

/-- An update that stores nothing, after others. -/
theorem Within.step {addresses : List Word} {s t u : State} (h : Within regs flags spToo addresses s t)
    (h' : Within regs flags spToo [] t u) : Within regs flags spToo addresses s u := by
  have hboth := h.trans h' nofun
  rwa [List.append_nil] at hboth

theorem within_refl (s : State) : Within regs flags spToo [] s s :=
  ⟨fun _ _ => rfl, ⟨fun _ _ => rfl, rfl⟩, fun _ => rfl, ⟨rfl, rfl, rfl, rfl, rfl⟩, fun _ _ => rfl,
    fun _ => ⟨⟨rfl, rfl, rfl, rfl⟩, fun _ _ => rfl⟩⟩

theorem within_setReg8 (s : State) {r : Reg8} (hr : r ∈ regs) (v : Byte) :
    Within regs flags spToo [] s (setReg8 s r v) :=
  ⟨fun r' hr' => reg8_setReg8_other s r r' v fun heq => hr' (heq ▸ hr), ⟨fun _ _ => by rw [setReg8_f], by rw [setReg8_f]⟩,
    fun _ => setReg8_sp s r v, ⟨setReg8_ime s r v, setReg8_run s r v, setReg8_currentOp s r v, setReg8_fault s r v,
      setReg8_config s r v⟩, storesNothing_setReg8 s r v⟩

theorem within_setSp (s : State) (v : Word) : Within regs flags true [] s (setSp s v) :=
  ⟨fun r _ => reg8_setSp s v r, ⟨fun _ _ => rfl, rfl⟩, nofun, ⟨rfl, rfl, rfl, rfl, rfl⟩, storesNothing_setSp s v⟩

theorem within_setPc (s : State) (v : Word) : Within regs flags spToo [] s (setPc s v) :=
  ⟨fun r _ => reg8_setPc s v r, ⟨fun _ _ => rfl, rfl⟩, fun _ => rfl, ⟨rfl, rfl, rfl, rfl, rfl⟩, storesNothing_setPc s v⟩

theorem within_advance (s : State) (n : Word) : Within regs flags spToo [] s (advance s n) := within_setPc s _

theorem within_setPair (s : State) (p : Pair) (v : Word) (hcells : ∀ r ∈ cellsOf p, r ∈ regs)
    (hsp : p = .sp → spToo = true) : Within regs flags spToo [] s (setPair s p v) := by
  cases p with
  | bc => exact (within_setReg8 s (hcells .b (by decide)) _).step (within_setReg8 _ (hcells .c (by decide)) _)
  | de => exact (within_setReg8 s (hcells .d (by decide)) _).step (within_setReg8 _ (hcells .e (by decide)) _)
  | hl => exact (within_setReg8 s (hcells .h (by decide)) _).step (within_setReg8 _ (hcells .l (by decide)) _)
  | sp => exact hsp rfl ▸ within_setSp s v

/-- A bus write changes the byte behind its address alone. -/
theorem within_busWrite {s t : State} {address : Word} {v : Byte} (h : busWrite s address v = .ok t) :
    Within regs flags spToo [address] s t := by
  obtain ⟨hreg, hf, hsp, -, hime, hop, hrun, hfault, -, hconfig⟩ := busWrite_keeps h
  exact ⟨fun r _ => hreg r, ⟨fun _ _ => by rw [hf], by rw [hf]⟩, fun _ => hsp, ⟨hime, hrun, hop, hfault, hconfig⟩,
    busWrite_storesOnlyAt h⟩

end

/-- The flags that an update writes. -/
def FlagUpdate.written (u : FlagUpdate) : List Flag :=
  (u.z.map fun _ => Flag.z).toList ++ (u.n.map fun _ => Flag.n).toList ++ (u.h.map fun _ => Flag.h).toList ++
    (u.c.map fun _ => Flag.c).toList

theorem flagOf_updateFlags_of_not_written (f : Byte) {u : FlagUpdate} {g : Flag} (h : g ∉ u.written) :
    flagOf (updateFlags f u) g = flagOf f g := by
  obtain ⟨z, n, hf, c⟩ := u
  rw [flagOf_updateFlags]
  cases g <;> [cases z; cases n; cases hf; cases c] <;> simp_all [FlagUpdate.written]

theorem within_withFlags {regs : List Reg8} {spToo : Bool} (s : State) (u : FlagUpdate) :
    Within regs u.written spToo [] s (withFlags s u) :=
  ⟨fun r _ => reg8_withFlags s u r, ⟨fun _ hg => flagOf_updateFlags_of_not_written s.f hg, updateFlags_low s.f u⟩,
    fun _ => rfl, ⟨rfl, rfl, rfl, rfl, rfl⟩, storesNothing_withFlags s u⟩

/-! ### Rules by their shape -/

section
variable {i : Instr} {regs : List Reg8} {flags : List Flag} {spToo : Bool}

/-- A rule that makes no access and advances PC. -/
theorem frame_of_finish {update : State → State} {n : Word} (hexec : ∀ s, exec i s = finish (update s) n)
    (h : ∀ s, Within regs flags spToo [] s (update s)) : frame i regs flags spToo := by
  intro s t ht
  rw [hexec, finish_next] at ht
  exact ht ▸ (h s).step (within_advance _ n)

/-- A rule that makes no access and jumps, to a target of its own or to the next instruction. -/
theorem frame_of_jump {target : State → Word} (hexec : ∀ s, exec i s = jump s (target s)) : frame i [] [] false := by
  intro s t ht
  rw [hexec] at ht
  obtain rfl := Host.Outcome.next.inj ht
  exact within_setPc s _

theorem frame_of_jumpOrFinish {cc : Cond} {target : State → Word} {n : Word}
    (hexec : ∀ s, exec i s = if condHolds s cc then jump s (target s) else finish s n) : frame i [] [] false := by
  refine frame_of_jump (target := fun s => if condHolds s cc then target s else s.pc + n) fun s => ?_
  rw [hexec]
  split <;> rfl

/-- A rule that reads one byte, updates the state with it and advances PC. -/
theorem frame_of_read {address : State → Word} {update : State → Byte → State} {n : Word}
    (hexec : ∀ s, exec i s = readThen none s (address s) fun v => finish (update s v) n)
    (h : ∀ s v, Within regs flags spToo [] s (update s v)) : frame i regs flags spToo := by
  intro s t ht
  rw [hexec] at ht
  obtain ⟨v, -, ht⟩ := readThen_next.1 ht
  rw [finish_next] at ht
  exact ht ▸ (h s v).step (within_advance _ n)

/-- A load of A. -/
theorem frame_of_loadA {address : State → Word} {n : Word} (hexec : ∀ s, exec i s = loadAThenFinish s (address s) n) :
    frame i [.a] [] false :=
  frame_of_read hexec fun s v => within_setReg8 s (List.mem_singleton.2 rfl) v

/-- A load of A that steps HL. -/
theorem frame_of_loadStep {delta : Word} (hexec : ∀ s, exec i s = loadStep s delta) : frame i [.a, .h, .l] [] false :=
  frame_of_read hexec fun s v => (within_setReg8 s (by decide) v).step (within_setPair _ .hl _ (by decide) nofun)

/-- A rule that pops a word and ends. -/
theorem frame_of_pop {update : State → Word → State} (hexec : ∀ s, exec i s = pop16 s fun u v => .next (update u v))
    (h : ∀ s v, Within regs flags true [] s (update s v)) : frame i regs flags true := by
  intro s t ht
  rw [hexec] at ht
  obtain ⟨lo, hi, -, -, ht⟩ := pop16_next.1 ht
  obtain rfl := Host.Outcome.next.inj ht
  exact (within_setSp s _).step (h _ _)

theorem frame_ret : frame .ret [] [] true := frame_of_pop exec_ret fun s v => within_setPc s v

end

/-- What a rule leaves that writes SP, PC, IME and the run state alone: no register, no flag and no byte. -/
theorem registers_and_memory_of_control (s : State) (sp pc : Word) (ime : Bool) (run : RunState) :
    regsSameBut [] s (setRun (setIme (setPc (setSp s sp) pc) ime) run) ∧
      flagsSameBut [] s (setRun (setIme (setPc (setSp s sp) pc) ime) run) ∧
      restSame s (setRun (setIme (setPc (setSp s sp) pc) ime) run) ∧
      storesNothing s (setRun (setIme (setPc (setSp s sp) pc) ime) run) :=
  ⟨fun r _ => by simp, ⟨fun _ _ => rfl, rfl⟩, ⟨rfl, rfl, rfl⟩,
    ((storesOnlyAt.then_nothing (storesNothing_setSp s sp) (storesNothing_setPc _ pc) rfl).then_nothing
      (storesNothing_setIme _ ime) rfl).then_nothing (storesNothing_setRun _ run) rfl⟩

/-! ### Loads, transfers and system instructions -/

/-- POP AF writes A and F, and SP (R155). -/
theorem popAf_leaves {s t : State} (h : exec .popAf s = .next t) :
    regsSameBut [.a] s t ∧ controlSame s t ∧ storesNothing s t := by
  obtain ⟨lo, hi, -, -, h⟩ := pop16_next.1 ((exec_popPair s .af).symm.trans h)
  obtain rfl := finish_next.1 h
  have hpop : Within [.a] allFlags true [] s (setReg8 (setSp s (s.sp + 2)) .a (hiByte (joinBytes hi lo))) :=
    (within_setSp s _).step (within_setReg8 _ (by decide) _)
  obtain ⟨hregs, -, -, hcontrol, hstores⟩ := hpop
  obtain ⟨-, -, -, -, hconfig⟩ := id hcontrol
  refine ⟨fun r hr => ?_, hcontrol, ?_⟩
  · rw [reg8_advance]
    exact (reg8_setF _ _ r).trans (hregs r hr)
  · exact (storesOnlyAt.then_nothing hstores (storesNothing_setF _ (loByte (joinBytes hi lo))) hconfig).then_nothing
      (storesNothing_setPc _ _) hconfig

/-- POP of a pair of field `pp`. -/
theorem frame_popPair {q : StackPair} (p : Pair) (hq : ∀ s v, setStackPair s q v = setPair s p v) :
    frame (.popPair q) (cellsOf p) [] true := by
  refine frame_of_pop (exec_popPair · q) fun s v => ?_
  rw [hq]
  exact (within_setPair s p v (fun _ h => h) fun _ => rfl).step (within_advance _ 1)

/-- INC rr and DEC rr. -/
theorem frame_of_stepPair {i : Instr} {p : Pair} {delta : Word} (hexec : ∀ s, exec i s = stepPair s p delta) :
    frame i (cellsOf p) [] (p == .sp) :=
  frame_of_finish hexec fun s => within_setPair s p _ (fun _ h => h) beq_iff_eq.2

/-- DI, EI and RETI write IME, and RETI SP. -/
theorem imeWriters_leave : ∀ i ∈ [Instr.di, .ei, .reti], ∀ s t, exec i s = .next t →
    regsSameBut [] s t ∧ flagsSameBut [] s t ∧ (i ≠ .reti → t.sp = s.sp) ∧ t.run = s.run ∧ restSame s t ∧
      storesNothing s t := by
  intro i hi s t h
  simp only [List.mem_cons, List.not_mem_nil, or_false] at hi
  rcases hi with rfl | rfl | rfl
  · obtain rfl := finish_next.1 ((exec_di s).symm.trans h)
    obtain ⟨hregs, hflags, hrest, hstores⟩ := registers_and_memory_of_control s s.sp (s.pc + 1) false s.run
    exact ⟨hregs, hflags, fun _ => rfl, rfl, hrest, hstores⟩
  · obtain rfl := finish_next.1 ((exec_ei s).symm.trans h)
    obtain ⟨hregs, hflags, hrest, hstores⟩ := registers_and_memory_of_control s s.sp (s.pc + 1) true s.run
    exact ⟨hregs, hflags, fun _ => rfl, rfl, hrest, hstores⟩
  · obtain ⟨lo, hi, -, -, hnext⟩ := pop16_next.1 ((exec_reti s).symm.trans h)
    obtain rfl := Host.Outcome.next.inj hnext
    obtain ⟨hregs, hflags, hrest, hstores⟩ :=
      registers_and_memory_of_control s (s.sp + 2) (joinBytes hi lo) true s.run
    exact ⟨hregs, hflags, fun hne => absurd rfl hne, rfl, hrest, hstores⟩

theorem halt_next {s t : State} (h : halt s = .next t) : t = setRun (advance s 1) .halted := by
  unfold halt at h
  split at h
  · cases h
  · exact (Host.Outcome.next.inj h).symm

/-- HALT and STOP write the run state. -/
theorem runWriters_leave : ∀ i ∈ [Instr.halt, .stop], ∀ s t, exec i s = .next t →
    regsSameBut [] s t ∧ flagsSameBut [] s t ∧ t.sp = s.sp ∧ t.ime = s.ime ∧ restSame s t ∧ storesNothing s t := by
  intro i hi s t h
  simp only [List.mem_cons, List.not_mem_nil, or_false] at hi
  rcases hi with rfl | rfl
  · obtain rfl := halt_next ((exec_halt s).symm.trans h)
    obtain ⟨hregs, hflags, hrest, hstores⟩ := registers_and_memory_of_control s s.sp (s.pc + 1) s.ime .halted
    exact ⟨hregs, hflags, rfl, rfl, hrest, hstores⟩
  · obtain rfl := Host.Outcome.next.inj ((exec_stop s).symm.trans h)
    obtain ⟨hregs, hflags, hrest, hstores⟩ := registers_and_memory_of_control s s.sp (s.pc + 2) s.ime .stopped
    exact ⟨hregs, hflags, rfl, rfl, hrest, hstores⟩

theorem frame_retCond (cc : Cond) : frame (.retCond cc) [] [] true := by
  intro s t h
  rw [exec_retCond, retIf] at h
  split at h
  · exact frame_ret s t h
  · obtain rfl := finish_next.1 h
    exact within_advance s 1

/-- Settles O58: each form by its shape. -/
theorem loadsTransfersAndSystemFrame : Obligations.LoadsTransfersAndSystemFrame := by
  refine ⟨fun dst src => frame_of_finish (exec_ldRegReg · dst src) fun s => within_setReg8 s (List.mem_singleton.2 rfl) _,
    fun dst n => frame_of_finish (exec_ldRegImm · dst n) fun s => within_setReg8 s (List.mem_singleton.2 rfl) n,
    fun dst => frame_of_read (exec_ldRegInd · dst) fun s v => within_setReg8 s (List.mem_singleton.2 rfl) v, ?_,
    fun nn => frame_of_loadA (exec_ldAIndNn · nn), fun n => frame_of_loadA (exec_ldhAIndN · n), ?_,
    fun p nn => frame_of_finish (exec_ldPairImm · p nn) fun s => within_setPair s p nn (fun _ h => h) beq_iff_eq.2,
    frame_of_finish exec_ldSpHl fun s => within_setSp s _,
    fun e => frame_of_finish (exec_ldHlSpE · e) fun s =>
      (within_setPair s .hl _ (fun _ h => h) nofun).step (within_withFlags _ _),
    fun e => frame_of_finish (exec_addSpE · e) fun s => (within_setSp s _).step (within_withFlags _ _),
    fun p => frame_of_finish (exec_addHlPair · p) fun s =>
      (within_setPair s .hl _ (fun _ h => h) nofun).step (within_withFlags _ _),
    fun p => ⟨frame_of_stepPair (exec_incPair · p), frame_of_stepPair (exec_decPair · p)⟩,
    frame_popPair .bc fun _ _ => rfl, frame_popPair .de fun _ _ => rfl, frame_popPair .hl fun _ _ => rfl,
    fun s t h => popAf_leaves h, fun nn => frame_of_jump (exec_jpNn · nn), fun cc nn => frame_of_jumpOrFinish (exec_jpCond · cc nn),
    frame_of_jump exec_jpHl, fun e => frame_of_jump (exec_jrE · e), fun cc e => frame_of_jumpOrFinish (exec_jrCond · cc e),
    frame_ret, frame_retCond, frame_of_jump exec_nop, imeWriters_leave, runWriters_leave⟩
  · simp only [List.forall_mem_cons, List.not_mem_nil, false_implies, implies_true, and_true]
    exact ⟨frame_of_loadA exec_ldAIndBc, frame_of_loadA exec_ldAIndDe, frame_of_loadA exec_ldAIndC⟩
  · simp only [List.forall_mem_cons, List.not_mem_nil, false_implies, implies_true, and_true]
    exact ⟨frame_of_loadStep exec_ldAIndHlInc, frame_of_loadStep exec_ldAIndHlDec⟩

/-! ### Arithmetic, rotates and bit operations -/

/-- An ALU operation writes A but CP, and the four flags. -/
theorem within_aluOn {s t : State} {op : AluOp} {x : Byte} {n : Word} (h : aluOn s op x n = .next t) :
    Within (if op = .cp then [] else [.a]) allFlags false [] s t := by
  cases op with
  | cp =>
    obtain rfl := finish_next.1 h
    exact (within_withFlags s _).step (within_advance _ n)
  | add | adc | sub | sbc | and | xor | or =>
    obtain rfl := finish_next.1 h
    exact ((within_withFlags s _).step (within_setReg8 _ (List.mem_singleton.2 rfl) _)).step (within_advance _ n)

/-- A register written, then flags, then PC. -/
theorem frame_of_setReg8_withFlags {i : Instr} {r : Reg8} {v : State → Byte} {u : State → FlagUpdate} {flags : List Flag}
    {n : Word} (hexec : ∀ s, exec i s = finish (withFlags (setReg8 s r (v s)) (u s)) n)
    (hflags : ∀ s, (u s).written = flags) : frame i [r] flags false :=
  frame_of_finish hexec fun s =>
    (within_setReg8 s (List.mem_singleton.2 rfl) (v s)).step (hflags s ▸ within_withFlags _ (u s))

/-- Settles O59: each form by the updates it makes. -/
theorem arithmeticFrame : Obligations.ArithmeticFrame := by
  refine ⟨fun op src s t h => ?_, fun op s t h => ?_, fun op n s t h => ?_,
    fun r => ⟨frame_of_setReg8_withFlags (exec_incReg · r) fun _ => rfl,
      frame_of_setReg8_withFlags (exec_decReg · r) fun _ => rfl⟩,
    frame_of_setReg8_withFlags exec_daa fun _ => rfl, frame_of_setReg8_withFlags exec_cpl fun _ => rfl,
    frame_of_finish exec_scf fun s => within_withFlags s _, frame_of_finish exec_ccf fun s => within_withFlags s _, ?_,
    fun op r => frame_of_setReg8_withFlags (exec_cbRot · op (.reg r)) fun _ => rfl, fun b t s u h => ?_,
    fun b r => ⟨frame_of_finish (exec_cbRes · b (.reg r)) fun s => within_setReg8 s (List.mem_singleton.2 rfl) _,
      frame_of_finish (exec_cbSet · b (.reg r)) fun s => within_setReg8 s (List.mem_singleton.2 rfl) _⟩⟩
  · exact within_aluOn ((exec_aluReg s op src).symm.trans h)
  · obtain ⟨v, -, hv⟩ := readThen_next.1 ((exec_aluInd s op).symm.trans h)
    exact within_aluOn hv
  · exact within_aluOn ((exec_aluImm s op n).symm.trans h)
  · simp only [List.forall_mem_cons, List.not_mem_nil, false_implies, implies_true, and_true]
    exact ⟨frame_of_setReg8_withFlags exec_rlca fun _ => rfl, frame_of_setReg8_withFlags exec_rrca fun _ => rfl,
      frame_of_setReg8_withFlags exec_rla fun _ => rfl, frame_of_setReg8_withFlags exec_rra fun _ => rfl⟩
  · obtain ⟨v, -, rfl⟩ := bitTarget_next.1 ((exec_cbBit s b t).symm.trans h)
    exact (within_withFlags s (bitFlags v b)).step (within_advance _ 2)

/-! ### Stores -/

/-- From 0x8000 on, outside the cartridge RAM window, no bank state moves an address. -/
theorem place_congr_fixed {s t : State} {address : Word} (hdata : 0x8000 ≤ address.toNat)
    (hfixed : address.toNat < 0xA000 ∨ 0xC000 ≤ address.toNat) : place t address = place s address := by
  have h4 : ¬ address.toNat < 0x4000 := by omega
  have h8 : ¬ address.toNat < 0x8000 := by omega
  rcases hfixed with h | h
  · simp only [place, h4, h8, h, if_true, if_false]
  · have ha : ¬ address.toNat < 0xA000 := by omega
    have hc : ¬ address.toNat < 0xC000 := by omega
    simp only [place, h4, h8, ha, hc, if_false]

/-- Two writes of neighbouring addresses: if the first is a control write, the second's data address is 0x8000 or 0xFFFF,
which no bank state moves. -/
theorem place_after_busWrite {s t : State} {a b : Word} {v : Byte} (h : busWrite s a v = .ok t)
    (hnext : b = a + 1 ∨ b = a - 1) (hdata : 0x8000 ≤ b.toNat) : place t b = place s b := by
  rcases busWrite_cases h with ⟨hlow, -⟩ | ⟨-, p, -, rfl⟩
  · have hb : b.toNat = 0x8000 ∨ b.toNat = 0xFFFF := by
      rcases hnext with rfl | rfl
      · rw [BitVec.toNat_add] at hdata ⊢
        have hone : (1 : Word).toNat = 1 := rfl
        omega
      · rw [BitVec.toNat_sub] at hdata ⊢
        have hone : (1 : Word).toNat = 1 := rfl
        omega
    exact place_congr_fixed hdata (by omega)
  · exact place_writePlace s p v b

section
variable {i : Instr} {regs : List Reg8} {flags : List Flag} {spToo : Bool}

theorem within_two_busWrites {s t u : State} {a b : Word} {v w : Byte} (h : busWrite s a v = .ok t)
    (h' : busWrite t b w = .ok u) (hnext : b = a + 1 ∨ b = a - 1) : Within regs flags spToo [a, b] s u :=
  (within_busWrite h).trans (within_busWrite h') fun c hc hdata => by
    obtain rfl := List.mem_singleton.1 hc
    exact place_after_busWrite h hnext hdata

/-- A rule that writes one byte, updates the state and advances PC. -/
theorem frameStoring_of_write {address : State → Word} {value : State → Byte} {update : State → State → State} {n : Word}
    (hexec : ∀ s, exec i s = writeThen none s (address s) (value s) fun t => finish (update s t) n)
    (h : ∀ s t, Within regs flags spToo [] t (update s t)) :
    frameStoring i (fun s => [address s]) regs flags spToo := by
  intro s t ht
  rw [hexec] at ht
  obtain ⟨u, hu, ht⟩ := writeThen_next.1 ht
  rw [finish_next] at ht
  exact ht ▸ ((within_busWrite hu).step (h s u)).step (within_advance _ n)

theorem frameStoring_of_store {address : State → Word} {value : State → Byte} {n : Word}
    (hexec : ∀ s, exec i s = storeThenFinish s (address s) (value s) n) :
    frameStoring i (fun s => [address s]) [] [] false :=
  frameStoring_of_write (update := fun _ t => t) hexec fun _ t => within_refl t

/-- A store of A that steps HL. -/
theorem frameStoring_of_storeStep {delta : Word} (hexec : ∀ s, exec i s = storeStep s delta) :
    frameStoring i (fun s => [hlAddress s]) [.h, .l] [] false :=
  frameStoring_of_write hexec fun _ t => within_setPair t .hl _ (fun _ h => h) nofun

/-- A rule that reads the byte at HL, writes one there, updates the state and advances PC. -/
theorem frameStoring_of_readWrite {sub : Option Byte} {value : State → Byte → Byte} {update : State → Byte → State → State}
    {n : Word}
    (hexec : ∀ s, exec i s = readThen sub s (hlAddress s) fun v =>
      writeThen sub s (hlAddress s) (value s v) fun t => finish (update s v t) n)
    (h : ∀ s v t, Within regs flags spToo [] t (update s v t)) :
    frameStoring i (fun s => [hlAddress s]) regs flags spToo := by
  intro s t ht
  rw [hexec] at ht
  obtain ⟨v, -, ht⟩ := readThen_next.1 ht
  obtain ⟨u, hu, ht⟩ := writeThen_next.1 ht
  rw [finish_next] at ht
  exact ht ▸ ((within_busWrite hu).step (h s v u)).step (within_advance _ n)

/-- What a push leaves before the rest of its rule. -/
theorem within_push {s t : State} {v : Word} {rest : State → Result} (h : push16 s v rest = .next t) :
    ∃ u, Within regs flags true [s.sp - 1, s.sp - 2] s u ∧ rest u = .next t := by
  have hpred : s.sp - 2 = s.sp - 1 - 1 := by bv_omega
  obtain ⟨s1, s2, h1, h2, hrest⟩ := push16_next.1 h
  exact ⟨_, (within_two_busWrites h1 h2 (.inr hpred)).step (within_setSp s2 _), hrest⟩

theorem frameStoring_of_call {target length : Word} (hexec : ∀ s, exec i s = call s target length) :
    frameStoring i (fun s => [s.sp - 1, s.sp - 2]) [] [] true := by
  intro s t h
  rw [hexec] at h
  obtain ⟨u, hu, hjump⟩ := within_push h
  obtain rfl := Host.Outcome.next.inj hjump
  exact hu.step (within_setPc u target)

end

theorem frameStoring_pushPair (q : StackPair) :
    frameStoring (.pushPair q) (fun s => [s.sp - 1, s.sp - 2]) [] [] true := by
  intro s t h
  rw [exec_pushPair, pushPair] at h
  obtain ⟨u, hu, hfinish⟩ := within_push h
  obtain rfl := finish_next.1 hfinish
  exact hu.step (within_advance u 1)

/-- A CALL cc that is not taken stores nothing (R246). -/
theorem frameStoring_callCond (cc : Cond) (nn : Word) : frameStoring (.callCond cc nn)
    (fun s => if condHolds s cc then [s.sp - 1, s.sp - 2] else []) [] [] true := by
  intro s t h
  rw [exec_callCond, callIf] at h
  split at h <;> rename_i hcc <;> simp only [hcc, if_true, if_false, Bool.false_eq_true]
  · exact frameStoring_of_call (exec_callNn · nn) s t h
  · obtain rfl := finish_next.1 h
    exact within_advance s 3

/-- LD (nn),SP writes at nn and nn + 1 (R150). -/
theorem frameStoring_ldIndNnSp (nn : Word) : frameStoring (.ldIndNnSp nn) (fun _ => [nn, nn + 1]) [] [] false := by
  intro s t h
  obtain ⟨s1, h1, h⟩ := writeThen_next.1 ((exec_ldIndNnSp s nn).symm.trans h)
  obtain ⟨s2, h2, h⟩ := writeThen_next.1 h
  obtain rfl := finish_next.1 h
  exact (within_two_busWrites h1 h2 (.inl rfl)).step (within_advance s2 3)

/-- Settles O60: each form by the writes and updates it makes. -/
theorem storesFrame : Obligations.StoresFrame :=
  ⟨fun src => frameStoring_of_store (exec_ldIndReg · src), fun n => frameStoring_of_store (exec_ldIndHlN · n),
    frameStoring_of_store exec_ldIndBcA, frameStoring_of_store exec_ldIndDeA,
    fun nn => frameStoring_of_store (exec_ldIndNnA · nn), fun n => frameStoring_of_store (exec_ldhIndNA · n),
    frameStoring_of_store exec_ldIndCA, frameStoring_of_storeStep exec_ldIndHlIncA,
    frameStoring_of_storeStep exec_ldIndHlDecA,
    frameStoring_of_readWrite exec_incIndHl fun _ v t => within_withFlags t (incFlags v),
    frameStoring_of_readWrite exec_decIndHl fun _ v t => within_withFlags t (decFlags v),
    fun op => frameStoring_of_readWrite (exec_cbRot · op .indHl) fun _ _ t => within_withFlags t (rotFlags _),
    fun b => ⟨frameStoring_of_readWrite (update := fun _ _ t => t) (exec_cbRes · b .indHl) fun _ _ t => within_refl t,
      frameStoring_of_readWrite (update := fun _ _ t => t) (exec_cbSet · b .indHl) fun _ _ t => within_refl t⟩,
    frameStoring_ldIndNnSp, frameStoring_pushPair, fun nn => frameStoring_of_call (exec_callNn · nn),
    frameStoring_callCond, fun k => frameStoring_of_call (exec_rst · k)⟩

end Sys2Proof.Machine
end

section
/-! PROOFS. Two instructions one after the other: DAA after an addition or a subtraction of packed decimals (41_alu8.md R183), and
a return or a pop after a call or a push (20_memory.md R73). -/

namespace Sys2Proof.Machine

open Sys2Proof.Claims

/-! ### Packed decimals (R183) -/

/-- The digits of a number below 100. -/
theorem two_digits {n : Nat} (h : n < 100) : ∃ a b, a < 10 ∧ b < 10 ∧ n = 10 * a + b :=
  ⟨n / 10, n % 10, by omega, by omega, by omega⟩

theorem toNat_bcd {a b : Nat} (ha : a < 10) (hb : b < 10) : (bcd (10 * a + b)).toNat = 16 * a + b := by
  rw [bcd, BitVec.toNat_ofNat]
  omega

/-- DAA after the sum of two packed decimals: the carry `k` out of the low digit shows in H or in the nibble, the carry `m` out
of the high digit in C or in the byte. -/
theorem decimalAdjusted_add {x y : Nat} (hx : x < 100) (hy : y < 100) :
    decimalAdjusted (((bcd x).toNat + (bcd y).toNat) % 256) false
        (decide ((bcd x).toNat % 16 + (bcd y).toNat % 16 > 15)) (decide ((bcd x).toNat + (bcd y).toNat > 255)) =
      (bcd ((x + y) % 100), decide (100 ≤ x + y)) := by
  obtain ⟨a, b, ha, hb, rfl⟩ := two_digits hx
  obtain ⟨c, d, hc, hd, rfl⟩ := two_digits hy
  obtain ⟨k, q, hk, hq, hlow⟩ : ∃ k q, k < 2 ∧ q < 10 ∧ b + d = 10 * k + q :=
    ⟨(b + d) / 10, (b + d) % 10, by omega, by omega, by omega⟩
  obtain ⟨m, p, hm, hp, hhigh⟩ : ∃ m p, m < 2 ∧ p < 10 ∧ a + c + k = 10 * m + p :=
    ⟨(a + c + k) / 10, (a + c + k) % 10, by omega, by omega, by omega⟩
  have hresult : (10 * a + b + (10 * c + d)) % 100 = 10 * p + q := by omega
  have hsum : 16 * a + b + (16 * c + d) = 160 * m + 16 * p + q - 6 * k := by omega
  have hm_iff : (16 * a + b + (16 * c + d) > 255 ∨ (16 * a + b + (16 * c + d)) % 256 > 0x99) ↔ m = 1 := by omega
  have hk_iff : ((16 * a + b) % 16 + (16 * c + d) % 16 > 15 ∨ (16 * a + b + (16 * c + d)) % 256 % 16 > 9) ↔ k = 1 := by
    omega
  have hcarry : 100 ≤ 10 * a + b + (10 * c + d) ↔ m = 1 := by omega
  rw [hresult, toNat_bcd ha hb, toNat_bcd hc hd]
  simp only [decimalAdjusted, Bool.false_eq_true, if_false, ← Bool.decide_or, decide_eq_true_iff, hm_iff, hk_iff, hcarry]
  refine Prod.ext (BitVec.eq_of_toNat_eq ?_) rfl
  rw [toNat_bcd hp hq, BitVec.toNat_ofNat]
  split_ifs <;> omega

/-- DAA after the difference of two packed decimals: the borrow `k` of the low digit shows in H, the borrow `m` of the high digit
in C. -/
theorem decimalAdjusted_sub {x y : Nat} (hx : x < 100) (hy : y < 100) :
    decimalAdjusted (BitVec.ofInt 8 ((bcd x).toNat - (bcd y).toNat)).toNat true
        (decide ((bcd x).toNat % 16 < (bcd y).toNat % 16)) (decide ((bcd x).toNat < (bcd y).toNat)) =
      (bcd ((100 + x - y) % 100), decide (x < y)) := by
  obtain ⟨a, b, ha, hb, rfl⟩ := two_digits hx
  obtain ⟨c, d, hc, hd, rfl⟩ := two_digits hy
  obtain ⟨k, q, hk, hq, hlow⟩ : ∃ k q, k < 2 ∧ q < 10 ∧ b + 10 * k = d + q :=
    ⟨1 - (b + 10 - d) / 10, (b + 10 - d) % 10, by omega, by omega, by omega⟩
  obtain ⟨m, p, hm, hp, hhigh⟩ : ∃ m p, m < 2 ∧ p < 10 ∧ a + 10 * m = c + k + p :=
    ⟨1 - (a + 10 - (c + k)) / 10, (a + 10 - (c + k)) % 10, by omega, by omega, by omega⟩
  have hresult : (100 + (10 * a + b) - (10 * c + d)) % 100 = 10 * p + q := by omega
  have hm_iff : 16 * a + b < 16 * c + d ↔ m = 1 := by omega
  have hk_iff : (16 * a + b) % 16 < (16 * c + d) % 16 ↔ k = 1 := by omega
  have hborrow : 10 * a + b < 10 * c + d ↔ m = 1 := by omega
  rw [hresult, toNat_bcd ha hb, toNat_bcd hc hd, BitVec.toNat_ofInt]
  simp only [decimalAdjusted, if_true, decide_eq_true_iff, hm_iff, hk_iff, hborrow]
  refine Prod.ext (BitVec.eq_of_toNat_eq ?_) rfl
  rw [toNat_bcd hp hq, BitVec.toNat_ofInt]
  split_ifs <;> omega

theorem nf_flagByte (f : Byte) (z n h c : Bool) : (flagByte f z n h c).getLsbD 6 = n := getLsbD_flagByte f z n h c 6 (by decide)

theorem hf_flagByte (f : Byte) (z n h c : Bool) : (flagByte f z n h c).getLsbD 5 = h := getLsbD_flagByte f z n h c 5 (by decide)

theorem cf_flagByte (f : Byte) (z n h c : Bool) : (flagByte f z n h c).getLsbD 4 = c := getLsbD_flagByte f z n h c 4 (by decide)

/-- DAA completes with A and C adjusted. -/
theorem exec_daa_adjusts (s : State) : ∃ t, exec .daa s = .next t ∧
    (t.a, cf t) = decimalAdjusted s.a.toNat (nf s) (hf s) (cf s) := by
  obtain ⟨-, hdaa⟩ := Alu8.decimalAdjust
  exact ⟨_, hdaa s, Prod.ext rfl (cf_flagByte _ _ _ _ _)⟩

/-- Settles O47: the sum and the difference with their flags, and DAA's adjustment of them. -/
theorem decimalAdjustMakesDecimalArithmetic : Obligations.DecimalAdjustMakesDecimalArithmetic := by
  intro s x y hx hy ha
  refine ⟨?_, ?_⟩
  · obtain ⟨u, hdaa, hu⟩ := exec_daa_adjusts (addEffect 0 s (bcd y) 2)
    simp only [addEffect, nf, hf, cf, nf_flagByte, hf_flagByte, cf_flagByte, ha, Nat.add_zero, BitVec.toNat_ofNat,
      Nat.reducePow, decimalAdjusted_add hx hy, Prod.mk.injEq] at hu
    exact ⟨_, u, (exec_aluImm s .add (bcd y)).trans (aluOn_add s (bcd y) 2), hdaa, hu⟩
  · obtain ⟨u, hdaa, hu⟩ := exec_daa_adjusts (subEffect 0 s (bcd y) 2)
    simp only [subEffect, subFlags, nf, hf, cf, nf_flagByte, hf_flagByte, cf_flagByte, ha, Nat.add_zero, Nat.cast_zero,
      sub_zero, decimalAdjusted_sub hx hy, Prod.mk.injEq] at hu
    exact ⟨_, u, (exec_aluImm s .sub (bcd y)).trans (aluOn_sub s (bcd y) 2), hdaa, hu⟩

/-! ### The stack (R73) -/

/-- The address that leads to a data byte, up to the echo of work RAM. -/
theorem place_address {s : State} {address : Word} {p : Place} (h : place s address = .ok p)
    (hdata : 0x8000 ≤ address.toNat) :
    match p with
    | .vram n => address.toNat = 0x8000 + n
    | .cram n => n = ramBank s * s.config.ramBankSize + (address.toNat - 0xA000) ∧ 0xA000 ≤ address.toNat ∧ address.toNat < 0xC000
    | .wram n => address.toNat = 0xC000 + n ∨ address.toNat = 0xE000 + n
    | .oam n => address.toNat = 0xFE00 + n
    | .io n => address.toNat = 0xFF00 + n
    | .hram n => address.toNat = 0xFF80 + n
    | .ie => address.toNat = 0xFFFF
    | .rom _ | .cramDisabled => True := by
  unfold place romPlace cramPlace at h
  dsimp only at h
  split_ifs at h <;> cases h <;> dsimp only <;> omega

/-- Neighbouring data addresses lead to different bytes. -/
theorem place_ne_of_succ {s : State} {a b : Word} {p : Place} (hb : b.toNat = a.toNat + 1) (hdata : 0x8000 ≤ a.toNat)
    (hp : place s b = .ok p) (hstored : p ≠ .cramDisabled) : place s a ≠ .ok p := by
  intro ha
  have hfirst := place_address ha hdata
  have hsecond := place_address hp (by omega)
  cases p with
  | rom n => have := place_rom_low ha; omega
  | cramDisabled => exact hstored rfl
  | vram | cram | wram | oam | io | hram | ie => dsimp only at hfirst hsecond; omega

/-- The two bytes below SP hold what is written to them: they are data bytes, neither behind disabled cartridge RAM. -/
structure StackReady (s : State) : Prop where
  high : 0x8000 ≤ (s.sp - 1).toNat
  low : 0x8000 ≤ (s.sp - 2).toNat
  highStored : ∃ p, place s (s.sp - 1) = .ok p ∧ p ≠ .cramDisabled
  lowStored : ∃ p, place s (s.sp - 2) = .ok p ∧ p ≠ .cramDisabled

/-- A word pushed is what the two reads of a pop from the new SP give. -/
theorem StackReady.push {s : State} (h : StackReady s) (v : Word) :
    ∃ s1 s2, busWrite s (s.sp - 1) (hiByte v) = .ok s1 ∧ busWrite s1 (s.sp - 2) (loByte v) = .ok s2 ∧
      busRead s2 (s.sp - 2) = .ok (loByte v) ∧ busRead s2 (s.sp - 1) = .ok (hiByte v) := by
  obtain ⟨hhigh, hlow, ⟨p, hp, hpstored⟩, ⟨q, hq, hqstored⟩⟩ := h
  have hsucc : (s.sp - 1).toNat = (s.sp - 2).toNat + 1 := by bv_omega
  have hne : place s (s.sp - 2) ≠ .ok p := place_ne_of_succ hsucc hlow hp hpstored
  have h1 := busWrite_of_place hhigh hp (hiByte v)
  have hplace : ∀ a, place (writePlace s p (hiByte v)) a = place s a := place_writePlace s p _
  have h2 := busWrite_of_place hlow ((hplace _).trans hq) (loByte v)
  refine ⟨_, _, h1, h2, ?_, ?_⟩
  · rw [busRead_busWrite h2 hlow, if_pos ⟨rfl, by rw [hplace, hq]; exact fun heq => hqstored (Except.ok.inj heq)⟩]
  · rw [busRead_busWrite h2 hlow, if_neg, busRead_busWrite h1 hhigh,
      if_pos ⟨rfl, by rw [hp]; exact fun heq => hpstored (Except.ok.inj heq)⟩]
    rintro ⟨heq, -⟩
    rw [hplace, hplace, hp] at heq
    exact hne heq.symm

/-- A push completes, and a pop from where it left SP and the bus gives the word and SP as they were. -/
theorem StackReady.push_then_pop {s : State} (h : StackReady s) (v : Word) :
    ∃ u, (∀ rest, push16 s v rest = rest u) ∧
      ∀ t, t.sp = u.sp → (∀ a, busRead t a = busRead u a) → ∀ rest, pop16 t rest = rest (setSp t s.sp) v := by
  obtain ⟨s1, s2, h1, h2, hlo, hhi⟩ := h.push v
  refine ⟨setSp s2 (s.sp - 2), fun rest => by rw [push16, writeThen_ok h1, writeThen_ok h2], fun t hsp hread rest => ?_⟩
  have hsp : t.sp = s.sp - 2 := hsp
  have hsucc : t.sp + 1 = s.sp - 1 := by rw [hsp]; bv_omega
  have hback : t.sp + 2 = s.sp := by rw [hsp]; bv_omega
  have hlo' : busRead t t.sp = .ok (loByte v) := by rw [hread, busRead_setSp, hsp, hlo]
  have hhi' : busRead t (t.sp + 1) = .ok (hiByte v) := by rw [hread, busRead_setSp, hsucc, hhi]
  rw [pop16, readThen_ok hlo', readThen_ok hhi', joinBytes_hi_lo, hback]

/-- A return after a call: the address after the instruction, with SP as before. -/
theorem StackReady.call_then_ret {s : State} (h : StackReady s) (target length : Word) :
    ∃ t, call s target length = .next t ∧ t.pc = target ∧
      exec .ret t = .next (setPc (setSp t s.sp) (s.pc + length)) := by
  obtain ⟨u, hpush, hpop⟩ := h.push_then_pop (s.pc + length)
  exact ⟨setPc u target, hpush _, rfl, hpop (setPc u target) rfl (busRead_setPc u target) _⟩

theorem stackPair_advance (s : State) (n : Word) (q : StackPair) : stackPair (advance s n) q = stackPair s q := by
  cases q <;> rfl

/-- Settles O56: the call and the return by `StackReady.call_then_ret`, with the bytes stored by their frames; the push and the
pop by `StackReady.push_then_pop`. -/
theorem stackDiscipline : Obligations.StackDiscipline := by
  intro s hhigh hlow hhighStored hlowStored
  have hready : StackReady s := ⟨hhigh, hlow, hhighStored, hlowStored⟩
  refine ⟨fun nn => ?_, fun k => ?_, fun q q' => ?_⟩
  · obtain ⟨t, hcall, hpc, hret⟩ := hready.call_then_ret nn 3
    obtain ⟨-, -, -, -, hstores⟩ :=
      Within.step (frameStoring_of_call (exec_callNn · nn) s t hcall) (frame_ret t _ hret)
    exact ⟨t, _, hcall, hpc, hret, rfl, rfl, hstores⟩
  · obtain ⟨t, hcall, -, hret⟩ := hready.call_then_ret (8 * k.setWidth 16) 1
    exact ⟨t, _, (exec_rst s k).trans hcall, hret, rfl, rfl⟩
  · obtain ⟨u, hpush, hpop⟩ := hready.push_then_pop (stackPair s q)
    refine ⟨advance u 1, _, (exec_pushPair s q).trans (hpush _),
      (exec_popPair _ q').trans (hpop (advance u 1) rfl (busRead_advance u 1) _), ?_, ?_⟩
    · exact setStackPair_sp _ q' _
    · rw [← stackPair_eq_stackPairValue, ← stackPair_eq_stackPairValue, stackPair_advance, stackPair_setStackPair]

end Sys2Proof.Machine
end
